-- ==== Sys2Proof/Word.lean ====
section
/-! DEFINITION. The words of the VQ7700: data sizes of R4, and the canonical sparse memory that every addressed
store of the model uses. -/

namespace Sys2Proof

/-- The 24-bit word of R4. -/
abbrev Word := BitVec 24

/-- One byte of an external interface (R5). -/
abbrev Byte := BitVec 8

/-- The 32-bit host container of R4. -/
abbrev Cont := BitVec 32

/-- How many PEs one physical Canvas holds: 17 x 16 tiles of 4,096 PEs (R21). -/
abbrev numPE : Nat := 1114112

/-- One bit of every physical PE. Bit `1024 * (64 * prow + seg) + x` belongs to the PE of physical tile row `prow`,
row segment `seg` and column `x`. -/
abbrev Plane := BitVec numPE

/-- A sparse memory: (key, value) pairs with strictly rising keys, none holding the value an unlisted key reads as. -/
abbrev Sparse (α : Type) := List (Nat × α)

end Sys2Proof
end

