-- ==== Sys2Proof/Syntax.lean ====
section
/-! DEFINITION. The commands of the VQ7700: one constructor for each row of spec/opcode_table.json, with the
operands that the row's step takes from outside. -/

namespace Sys2Proof

/-- The two host ports (R599). -/
inductive Port where
  | a
  | b
  deriving DecidableEq, Repr

/-- Who makes a register access: a port and one of its sessions (R629); session 0 is non-secure. -/
structure Who where
  port : Port
  sess : BitVec 12
  deriving DecidableEq, Repr

/-- What the SEC-DED check bits of the link show in a packet that a router takes (R548): nothing, an error that is corrected, an
uncorrectable one in the head flit, or one in a data flit. -/
inductive LinkError where
  | clean
  | corrected
  | head
  | data
  deriving DecidableEq, Repr

/-- Who writes PH_OWN_b (R586): a session, the firmware of the service cores or of the security block, or the owner with a code. -/
inductive OwnWriter where
  | session (u : Who)
  | firmware
  | owner (code : BitVec 8)
  deriving DecidableEq, Repr

/-- What a register write carries: the value, the bits that a hardware update of the same clock reaches (R13), and the byte enables of a
doubleword written through a BAR (R604). -/
structure WriteData where
  value : Cont
  hit : Word
  be : BitVec 4 := 0xF
  deriving DecidableEq, Repr

/-- The configuration of a PCIe function that R599 lets a host set: lanes trained, as a power of two, speed from 2.5 GT/s in powers of two,
Max Payload Size from 128 and Max Read Request Size from 128 in powers of two, D3hot, ASPM L1, and the MSI-X function mask (R611); by
default as after a reset (`PortConfig.reset`). -/
structure PortConfig where
  lanes : Fin 5 := 0
  speed : Fin 5 := 0
  payload : Fin 3 := 0
  request : Fin 6 := 2
  d3hot : Bool := false
  l1 : Bool := false
  functionMask : Bool := false
  deriving DecidableEq, Repr

/-- An Onfel request packet (R623): the four header containers and the payload containers as delivered; with a REG_WRITE, the bits that
hardware updates of the same clocks reach in the registers it writes (R13). -/
structure Request where
  w0 : Cont
  w1 : Cont
  w2 : Cont
  w3 : Cont
  payload : List Cont
  hits : List Word := []
  deriving DecidableEq, Repr

/-- A NoC packet (R545): the head flit and the bytes its data flits carry. -/
structure Packet where
  head : BitVec 256
  data : List Byte
  deriving DecidableEq, Repr

/-- What the meter reads in one 10 µs sample (R512, R537): power of each rail in mW, VDD_ARRAY first; the hottest
junction in 1/16 degrees; and the beat frequency in Hz that R517 uses. -/
structure Sample where
  rails : List Nat
  tj : BitVec 16
  beatHz : Nat
  deriving DecidableEq, Repr

/-- What the start-up sequence finds (R694): the mean strap voltage in mV (R678), the physical tiles (16 * prow + column)
failing their self-test (R98), the DRAM stacks that fail training (R712), and the hottest junction in 1/16 degrees (R536). -/
structure StartUp where
  strapMv : Nat
  failing : List (Fin 272)
  untrained : BitVec 4
  tj : BitVec 16
  deriving DecidableEq, Repr

/-- What an authenticated unlock gives the debug port (R681): a key by its index of R652, and a signature over the challenge it holds. -/
structure DebugSig where
  key : BitVec 4
  sig : BitVec 512
  deriving DecidableEq, Repr

/-- The operations and events of the part (spec/opcode_table.json). A VQ24 instruction carries the operand bits
[39:0] of its 48-bit word (R164); its opcode, bits [47:40], is the constructor. -/
inductive Instr where
  /-- NOP (R184): Scalar no-operation that changes no state. -/
  | nop (w : BitVec 40)
  /-- MOV (R184): Copies a D or A register into a D or A register. -/
  | mov (w : BitVec 40)
  /-- MOVI (R184): Loads the 24-bit immediate into a D or A register. -/
  | movi (w : BitVec 40)
  /-- ADD (R182): Adds two registers and sets N, Z, C and V for a D destination. -/
  | add (w : BitVec 40)
  /-- ADDI (R182): Adds a register and the immediate and sets the flags for a D destination. -/
  | addi (w : BitVec 40)
  /-- SUB (R182): Subtracts two registers and sets the flags, with C meaning no borrow. -/
  | sub (w : BitVec 40)
  /-- SUBI (R182): Subtracts the immediate from a register and sets the flags. -/
  | subi (w : BitVec 40)
  /-- ADC (R184): Adds two registers and the carry. -/
  | adc (w : BitVec 40)
  /-- SBC (R184): Subtracts with borrow, taking the borrow as 1 − C. -/
  | sbc (w : BitVec 40)
  /-- AND (R184): Bitwise AND of two registers. -/
  | and_ (w : BitVec 40)
  /-- ANDI (R184): Bitwise AND of a register with the immediate. -/
  | andi (w : BitVec 40)
  /-- OR (R184): Bitwise OR of two registers. -/
  | or_ (w : BitVec 40)
  /-- ORI (R184): Bitwise OR of a register with the immediate. -/
  | ori (w : BitVec 40)
  /-- XOR (R184): Bitwise XOR of two registers. -/
  | xor (w : BitVec 40)
  /-- XORI (R184): Bitwise XOR of a register with the immediate. -/
  | xori (w : BitVec 40)
  /-- NOT (R184): Bitwise NOT of a register. -/
  | not_ (w : BitVec 40)
  /-- NEG (R318): Negates a register, leaving the most negative value unchanged with V set. -/
  | neg (w : BitVec 40)
  /-- ABS (R318): Takes the absolute value of a register, with the most-negative edge result. -/
  | abs (w : BitVec 40)
  /-- CMP (R182): Sets the flags of s1 − s2 without writing a result. -/
  | cmp (w : BitVec 40)
  /-- CMPI (R182): Sets the flags of s1 − imm without writing a result. -/
  | cmpi (w : BitVec 40)
  /-- SHL (R319): Logical shift left by the count in a register. -/
  | shl (w : BitVec 40)
  /-- SHLI (R319): Logical shift left by the immediate count. -/
  | shli (w : BitVec 40)
  /-- SHR (R319): Logical shift right by the count in a register. -/
  | shr (w : BitVec 40)
  /-- SHRI (R319): Logical shift right by the immediate count. -/
  | shri (w : BitVec 40)
  /-- SAR (R319): Arithmetic shift right by the count in a register. -/
  | sar (w : BitVec 40)
  /-- SARI (R319): Arithmetic shift right by the immediate count. -/
  | sari (w : BitVec 40)
  /-- SAL (R319): Arithmetic shift left by the count in a register, with V for overflow. -/
  | sal (w : BitVec 40)
  /-- SALI (R319): Arithmetic shift left by the immediate count, with V for overflow. -/
  | sali (w : BitVec 40)
  /-- ROL (R319): Rotate left by the count in a register, modulo the width. -/
  | rol (w : BitVec 40)
  /-- ROLI (R319): Rotate left by the immediate count, modulo the width. -/
  | roli (w : BitVec 40)
  /-- ROR (R319): Rotate right by the count in a register, modulo the width. -/
  | ror (w : BitVec 40)
  /-- RORI (R319): Rotate right by the immediate count, modulo the width. -/
  | rori (w : BitVec 40)
  /-- MULL (R314): Writes the low 24 bits of the product, with early end outside locked sections. -/
  | mull (w : BitVec 40)
  /-- MULU (R312): Writes the 48-bit unsigned product into an accumulator in 1 + k issue cycles. -/
  | mulu (w : BitVec 40)
  /-- MULS (R312): Writes the 48-bit signed product into an accumulator in 1 + k issue cycles. -/
  | muls (w : BitVec 40)
  /-- MACU (R315): Adds the unsigned product to an accumulator modulo 2^72. -/
  | macu (w : BitVec 40)
  /-- MACS (R315): Adds the signed product to an accumulator modulo 2^72. -/
  | macs (w : BitVec 40)
  /-- DIVU (R316): Writes the unsigned quotient and remainder to an even D register pair in 10 cycles. -/
  | divu (w : BitVec 40)
  /-- DIVS (R316): Writes the signed quotient and remainder to an even D register pair in 10 cycles. -/
  | divs (w : BitVec 40)
  /-- ACRD (R185): Reads one 24-bit part of an accumulator into a register. -/
  | acrd (w : BitVec 40)
  /-- ACWR (R185): Writes one 24-bit part of an accumulator from a register. -/
  | acwr (w : BitVec 40)
  /-- ACCLR (R234): Clears an accumulator and marks it clean. -/
  | acclr (w : BitVec 40)
  /-- LD (R171): Loads a word from data memory, a system register or a window, with address update by mode. -/
  | ld (w : BitVec 40)
  /-- ST (R171): Stores a word to data memory, a system register or a window, with address update by mode. -/
  | st (w : BitVec 40)
  /-- LDAC (R174): Loads an accumulator from three consecutive words. -/
  | ldac (w : BitVec 40)
  /-- STAC (R174): Stores an accumulator as three consecutive words. -/
  | stac (w : BitVec 40)
  /-- WINDOW_ACCESS_COMPLETE (R29): A pigeonhole or DRAM window access completes and the stalled nano-word stream and scalar issue continue. -/
  | windowAccessComplete
  /-- FADD_32 (R186): Adds two binary32 accumulators under RM. -/
  | fadd_32 (w : BitVec 40)
  /-- FADD_64 (R186): Adds two binary64 accumulators under RM. -/
  | fadd_64 (w : BitVec 40)
  /-- FSUB_32 (R186): Subtracts two binary32 accumulators under RM. -/
  | fsub_32 (w : BitVec 40)
  /-- FSUB_64 (R186): Subtracts two binary64 accumulators under RM. -/
  | fsub_64 (w : BitVec 40)
  /-- FMUL_32 (R186): Multiplies two binary32 accumulators under RM. -/
  | fmul_32 (w : BitVec 40)
  /-- FMUL_64 (R186): Multiplies two binary64 accumulators under RM. -/
  | fmul_64 (w : BitVec 40)
  /-- FMA_32 (R186): Fused binary32 multiply-add, rounded once. -/
  | fma_32 (w : BitVec 40)
  /-- FMA_64 (R186): Fused binary64 multiply-add, rounded once. -/
  | fma_64 (w : BitVec 40)
  /-- FDIV_32 (R186): Divides two binary32 accumulators under RM. -/
  | fdiv_32 (w : BitVec 40)
  /-- FDIV_64 (R186): Divides two binary64 accumulators under RM. -/
  | fdiv_64 (w : BitVec 40)
  /-- FSQRT_32 (R186): Takes the binary32 square root under RM. -/
  | fsqrt_32 (w : BitVec 40)
  /-- FSQRT_64 (R186): Takes the binary64 square root under RM. -/
  | fsqrt_64 (w : BitVec 40)
  /-- FCMP_32 (R182): Compares two binary32 values quietly and sets SEQ_CR to one outcome. -/
  | fcmp_32 (w : BitVec 40)
  /-- FCMP_64 (R182): Compares two binary64 values quietly and sets SEQ_CR to one outcome. -/
  | fcmp_64 (w : BitVec 40)
  /-- FCVT (R187): Converts between integer, binary32 and binary64 as imm[3:0] selects. -/
  | fcvt (w : BitVec 40)
  /-- B (R183): Branches to the target when the selected condition, including GOR, is true. -/
  | b (w : BitVec 40)
  /-- CALL (R188): Saves PC + 1 in D31 and jumps to the target. -/
  | call (w : BitVec 40)
  /-- CALLR (R742): Saves PC + 1 in D31 and jumps to the address in a register. -/
  | callr (w : BitVec 40)
  /-- JMP (R742): Jumps to the address in a register. -/
  | jmp (w : BitVec 40)
  /-- RET (R188): Returns to the address in D15. -/
  | ret (w : BitVec 40)
  /-- RETL (R188): Returns to the address in D31. -/
  | retl (w : BitVec 40)
  /-- SAVE (R229): Pushes a register-window frame, stalling for the spiller when the ring is full. -/
  | save (w : BitVec 40)
  /-- RESTORE (R229): Pops a register-window frame, stalling for a fill when needed. -/
  | restore (w : BitVec 40)
  /-- STALLED_SAVE_EXECUTE (R230): A SAVE stalled on RES = 11 executes once the spiller has spilled the oldest frame. -/
  | stalledSaveExecute
  /-- STALLED_RESTORE_EXECUTE (R230): A RESTORE stalled on RES = 1 executes once the spiller has filled the previous frame. -/
  | stalledRestoreExecute
  /-- SPILL (R237): The spiller writes the oldest resident frame as a record onto the spill stack. -/
  | spill
  /-- FILL (R238): The spiller loads the most recently spilled record back into a window. -/
  | fill
  /-- REP (R247): Latches the immediate as a repeat count for the next instruction. -/
  | rep (w : BitVec 40)
  /-- REPR (R247): Latches a D register as a repeat count for the next instruction. -/
  | repr (w : BitVec 40)
  /-- LOCK (R206): Enters a locked section and sets SEQ_STATUS.LOCKED. -/
  | lock (w : BitVec 40)
  /-- UNLOCK (R206): Leaves a locked section and clears SEQ_STATUS.LOCKED. -/
  | unlock (w : BitVec 40)
  /-- WAITB (R190): Waits so that the next instruction issues in the first array cycle of the next beat. -/
  | waitb (w : BitVec 40)
  /-- WAITB_COMPLETE (R190): A waiting WAITB completes at the beat edge, unless a deadtime hold keeps it waiting. -/
  | waitbComplete
  /-- SCALL (R213): Calls secure gate n from a non-secure context and switches to the secure world. -/
  | scall (w : BitVec 40)
  /-- SRET (R213): Returns from a secure gate to the saved PC, world and privilege. -/
  | sret (w : BitVec 40)
  /-- RTT (R262): Returns from a trap, restoring state and resuming or abandoning a suspended macro. -/
  | rtt (w : BitVec 40)
  /-- HALT (R192): Stops scalar issue after any dispatched macro completes and reports the halt. -/
  | halt (w : BitVec 40)
  /-- CHKPT (R191): Passes PC + 1 and imm to the fault manager as the restart point. -/
  | chkpt (w : BitVec 40)
  /-- AADD (R198): Dispatches a bit-serial add of two w-bit fields in every executing PE. -/
  | aadd (w : BitVec 40)
  /-- ASUB (R198): Dispatches a bit-serial subtract of two fields. -/
  | asub (w : BitVec 40)
  /-- ACMP (R199): Dispatches a field compare writing one result bit per PE. -/
  | acmp (w : BitVec 40)
  /-- ANEG (R198): Dispatches an array negate. -/
  | aneg (w : BitVec 40)
  /-- AABS (R198): Dispatches an array absolute value. -/
  | aabs (w : BitVec 40)
  /-- AMULU (R341): Dispatches an unsigned array multiply, with early-out when permitted. -/
  | amulu (w : BitVec 40)
  /-- AMULS (R341): Dispatches a signed array multiply, with early-out when permitted. -/
  | amuls (w : BitVec 40)
  /-- ADIVU (R338): Dispatches an unsigned array divide writing the quotient. -/
  | adivu (w : BitVec 40)
  /-- AREMU (R338): Dispatches an unsigned array divide writing the remainder. -/
  | aremu (w : BitVec 40)
  /-- ADIVS (R338): Dispatches a signed array divide writing the quotient. -/
  | adivs (w : BitVec 40)
  /-- AREMS (R338): Dispatches a signed array divide writing the remainder. -/
  | arems (w : BitVec 40)
  /-- ASHL (R319): Dispatches an array logical shift left by a per-PE count field. -/
  | ashl (w : BitVec 40)
  /-- ASHR (R319): Dispatches an array logical shift right. -/
  | ashr (w : BitVec 40)
  /-- ASAR (R319): Dispatches an array arithmetic shift right. -/
  | asar (w : BitVec 40)
  /-- ASAL (R319): Dispatches an array arithmetic shift left, setting OF on overflow. -/
  | asal (w : BitVec 40)
  /-- AROL (R319): Dispatches an array rotate left. -/
  | arol (w : BitVec 40)
  /-- AROR (R319): Dispatches an array rotate right. -/
  | aror (w : BitVec 40)
  /-- AMOV (R198): Dispatches an array field copy. -/
  | amov (w : BitVec 40)
  /-- ABOOL2 (R288): Dispatches a two-input Boolean function of fields given by A8. -/
  | abool2 (w : BitVec 40)
  /-- ABOOL3 (R288): Dispatches a three-input Boolean function of fields given by A8. -/
  | abool3 (w : BitVec 40)
  /-- ABCAST (R288): Dispatches a broadcast of a scalar register into a field of every PE. -/
  | abcast (w : BitVec 40)
  /-- AFADD_32 (R343): Dispatches an array binary32 add. -/
  | afadd_32 (w : BitVec 40)
  /-- AFSUB_32 (R343): Dispatches an array binary32 subtract. -/
  | afsub_32 (w : BitVec 40)
  /-- AFMUL_32 (R343): Dispatches an array binary32 multiply. -/
  | afmul_32 (w : BitVec 40)
  /-- AFMA_32 (R343): Dispatches an array binary32 fused multiply-add. -/
  | afma_32 (w : BitVec 40)
  /-- AFDIV_32 (R343): Dispatches an array binary32 divide. -/
  | afdiv_32 (w : BitVec 40)
  /-- AFSQRT_32 (R343): Dispatches an array binary32 square root. -/
  | afsqrt_32 (w : BitVec 40)
  /-- AFCMP_32 (R330): Dispatches an array binary32 compare into one bit. -/
  | afcmp_32 (w : BitVec 40)
  /-- AFADD_64 (R343): Dispatches an array binary64 add. -/
  | afadd_64 (w : BitVec 40)
  /-- AFSUB_64 (R343): Dispatches an array binary64 subtract. -/
  | afsub_64 (w : BitVec 40)
  /-- AFMUL_64 (R343): Dispatches an array binary64 multiply. -/
  | afmul_64 (w : BitVec 40)
  /-- AFMA_64 (R343): Dispatches an array binary64 fused multiply-add. -/
  | afma_64 (w : BitVec 40)
  /-- AFDIV_64 (R343): Dispatches an array binary64 divide. -/
  | afdiv_64 (w : BitVec 40)
  /-- AFSQRT_64 (R343): Dispatches an array binary64 square root. -/
  | afsqrt_64 (w : BitVec 40)
  /-- AFCMP_64 (R330): Dispatches an array binary64 compare into one bit. -/
  | afcmp_64 (w : BitVec 40)
  /-- AFCVT (R344): Dispatches an array conversion selected by A8[3:0]. -/
  | afcvt (w : BitVec 40)
  /-- ASHIFT (R202): Dispatches a move of a field dist PEs in direction dir. -/
  | ashift (w : BitVec 40)
  /-- AGATH (R203): Dispatches a gather of a field from stencil offset j. -/
  | agath (w : BitVec 40)
  /-- AGATHOR (R284): Dispatches an OR-gather over all offsets of a stencil, one pass per offset. -/
  | agathor (w : BitVec 40)
  /-- AGSET (R198): Dispatches G := bit s1, with optional delivery. -/
  | agset (w : BitVec 40)
  /-- AGNZ (R198): Dispatches G := 1 when any bit of a field is 1, with optional delivery. -/
  | agnz (w : BitVec 40)
  /-- AGCLR (R198): Dispatches G := 0 in every PE whatever M. -/
  | agclr (w : BitVec 40)
  /-- AGDLV (R198): Dispatches one word that only delivers under D8. -/
  | agdlv (w : BitVec 40)
  /-- AMSET (R198): Dispatches M := bit s1. -/
  | amset (w : BitVec 40)
  /-- AMALL (R198): Dispatches M := 1. -/
  | amall (w : BitVec 40)
  /-- AMNOT (R198): Dispatches M := NOT M. -/
  | amnot (w : BitVec 40)
  /-- AMAND (R198): Dispatches M := M AND bit s1. -/
  | amand (w : BitVec 40)
  /-- AIN (R198): Dispatches a copy of inbox bits into a field, with optional TAKE in the last word. -/
  | ain (w : BitVec 40)
  /-- AOUT (R198): Dispatches a load of outbox bits from a field, with optional POST in the first word. -/
  | aout (w : BitVec 40)
  /-- ATAKE (R73): Dispatches one TAKE word. -/
  | atake (w : BitVec 40)
  /-- APOST (R77): Dispatches one POST word. -/
  | apost (w : BitVec 40)
  /-- AFCLR (R204): Dispatches a clear of selected flag-slot bits where M = 1. -/
  | afclr (w : BitVec 40)
  /-- AFMOV (R198): Dispatches a copy of the five flag-slot bits into a field. -/
  | afmov (w : BitVec 40)
  /-- ASIDE (R198): Dispatches one nano-word with only SLOT set. -/
  | aside (w : BitVec 40)
  /-- MICRO_WORD (R281): The micro-sequencer executes one micro-word of the running macro and issues one nano-word. -/
  | microWord
  /-- SCAN_RESULT (R295): 48 cycles after a scan's last GSCAN word, L2 takes the early-out step count. -/
  | scanResult
  /-- ARRAY_FP_CHECK_RESULT (R350): The last flag-word result of a check tail lands, releasing the scalar hold or taking trap 0x0B. -/
  | arrayFpCheckResult
  /-- NANO_WORD (R37): Every executing PE carries out the nano-word of its execution cycle. -/
  | nanoWord
  /-- INTERRUPT_ENTRY (R267): A qualifying pending interrupt is taken at a safe point, suspending any running macro. -/
  | interruptEntry
  /-- SEQ_CTXSAVE_WRITE (R244): A supervisor store spills resident frames and writes a context record. -/
  | seqCtxsaveWrite (v : Word)
  /-- SEQ_CTXLOAD_WRITE (R245): A supervisor store loads a context record into the registers. -/
  | seqCtxloadWrite (v : Word)
  /-- SEQ_ISET_WRITE (R279): A store sets the pending bits of software interrupt lines 12 to 15. -/
  | seqIsetWrite (v : Word)
  /-- SEQ_RPTC_WRITE (R222): Any store to SEQ_RPTC raises trap 0x0E. -/
  | seqRptcWrite (v : Word)
  /-- SEQ_TSTATE_WRITE (R264): A supervisor store to TW switches between the trap window and the ring while DEPTH is not 0. -/
  | seqTstateWrite (v : Word)
  /-- SPILL_POINTER_WRITE (R243): A store to the spill-stack pointers takes effect after the record in progress. -/
  | spillPointerWrite (k : Fin 3) (v : Word)
  /-- SEQ_CYCLO_LOAD (R225): A load of SEQ_CYCLO latches the high half into SEQ_CYCHI. -/
  | seqCycloLoad (r : BitVec 6)
  /-- SEQ_PMLO_LOAD (R225): A load of SEQ_PMLO latches the postmark high half into SEQ_PMHI. -/
  | seqPmloLoad (r : BitVec 6)
  /-- SEQ_TALLY_LOAD (R113): A read of SEQ_TALLY stalls until the last tally capture in flight has landed. -/
  | seqTallyLoad (r : BitVec 6)
  /-- TALLY_CAPTURE (R112): 64 cycles after a TCAP word issues, SEQ_TALLY takes the tally of that cycle. -/
  | tallyCapture
  /-- REGION_CAPTURE (R117): 32 cycles after an RCAP word issues, the formatter takes the region OR map. -/
  | regionCapture
  /-- FLAG_GROUP_DELIVERY (R110): 48 cycles after an FGE word issues, its global OR is delivered to its flag group and drives accept pins and veto. -/
  | flagGroupDelivery
  /-- ACC_PULSE_END (R488): A PULSE-mode accept pin falls when its WIDTH count expires. -/
  | accPulseEnd (n : Fin 4)
  /-- TRIGGER_WORD (R475): In the close cycle of a beat window the formatter builds the trigger word. -/
  | triggerWord
  /-- OUTPUT_FRAME (R484): An output lane begins sending the trigger-word frame, or omits it if the last is still sending. -/
  | outputFrame (n : Fin 16) (gap : Option Nat)
  /-- BEAT (R380): A BEATCLK rising edge begins a beat, advancing the beat counter and toggling ALIVE when due. -/
  | beat
  /-- BEATCLK_LOST (R384): No BEATCLK edge for 16 always-on ticks sets TIM_STATUS.LOST. -/
  | beatclkLost
  /-- BEATCLK_OUT_OF_RANGE (R384): BEATCLK measured outside 9.5 to 105 MHz sets TIM_STATUS.RANGE. -/
  | beatclkOutOfRange
  /-- SYNC (R387): TSTREAM SYNC frame, which has no effect. -/
  | sync (part arg : Byte)
  /-- TSTREAM_RUN_START (R387): TSTREAM RUN_START enters RUN at its effective beat when an Onfel RUN_START is accepted, and is otherwise ignored. -/
  | tstreamRunStart (part arg : Byte)
  /-- SPILL_WARNING (R387): TSTREAM SPILL_WARNING wakes the device from SLEEP and informs the franking meter. -/
  | spillWarning (part arg : Byte)
  /-- SPILL_END (R387): TSTREAM SPILL_END ends the spill for the franking meter. -/
  | spillEnd (part arg : Byte)
  /-- BEAT_RESET (R387): TSTREAM BEAT_RESET sets the beat count to 0. -/
  | beatReset (part arg : Byte)
  /-- EPOCH (R387): TSTREAM EPOCH sets the epoch to ARG. -/
  | epoch (part arg : Byte)
  /-- SPILL_START (R507): ARG ms after a SPILL_WARNING's effective beat the spill begins and CPSPILL applies. -/
  | spillStart
  /-- SYMBOL_ALIGNMENT (R366): A lane in ACQUIRE achieves symbol alignment and enters HELLO. -/
  | symbolAlignment (l : Fin 144)
  /-- ORDERED_SET (R362): A lane receives an ordered set, removes it from the data stream and acts on its type. `line`: its symbols as
  they come in, bit 0 first (R358, R360); `onWord`: it lies on a word boundary; `onBeat`: that boundary lies a whole number of beats
  after the lane's first BEAT; `phase`: the time of R377, words in [13:7] and UI in [6:0]. -/
  | orderedSet (l : Fin 144) (line : BitVec 66) (onWord onBeat : Bool) (phase : BitVec 14)
  /-- HELLO_TIMEOUT (R370): No identical HELLO pair within 1 ms sets version 0 and enters UP. -/
  | helloTimeout (l : Fin 144)
  /-- HELLO_TRANSMIT (R369): A lane in HELLO sends a HELLO set every 128 symbols. -/
  | helloTransmit (l : Fin 144)
  /-- LANE_UP (R369): After 8 HELLO sets with ACK the lane enters UP. -/
  | laneUp (l : Fin 144)
  /-- ALIVE_TRANSMIT (R372): An UP lane inserts an ALIVE ordered set every 1,024 symbols. -/
  | aliveTransmit (l : Fin 144)
  /-- LANE_WORD (R382): A lane hands Tweed a decoded word with its postmark. `line`: the symbols of the word as they come in, bit 0 first
  (R357, R358): 40, 64 or 32 bits by the lane's coding; `head`: the sync header before the 64 bits of a 64b/66b block. -/
  | laneWord (l : Fin 144) (line : BitVec 64) (head : BitVec 2)
  /-- LOSS_OF_SIGNAL (R367): Signal amplitude absent for 1,024 UI loses the lane with CAUSE 1. -/
  | lossOfSignal (l : Fin 144)
  /-- CDR_LOSS_OF_LOCK (R367): CDR loss of lock loses the lane with CAUSE 2. -/
  | cdrLossOfLock (l : Fin 144)
  /-- ALIVE_TIMEOUT (R367): No partner ALIVE for 4,096 symbols loses the lane with CAUSE 4. -/
  | aliveTimeout (l : Fin 144)
  /-- QUAD_PLL_LOSS_OF_LOCK (R367): A lane quad PLL loses lock and its lanes are lost with CAUSE 6. -/
  | quadPllLossOfLock (n : Fin 36)
  /-- QUAD_PLL_LOCK (R365): A quad PLL locks and its enabled lanes begin acquisition. -/
  | quadPllLock (n : Fin 36)
  /-- LQ_PLL_WRITE (R401): A write to LQ_PLL changes the quad rate and returns all four lanes to ACQUIRE. -/
  | lqPllWrite (u : Who) (n : Fin 36) (v : Word)
  /-- LQ_CFG_WRITE (R401): A write to LQ_CFG_l reconfigures one lane and takes it to ACQUIRE or DISABLED. -/
  | lqCfgWrite (u : Who) (l : Fin 144) (v : Word)
  /-- INGEST_RECORD (R391): An ingest port takes a 256-bit record and routes its payloads, or holds it when a tile queue lacks room. -/
  | ingestRecord (n : Fin 32) (rec : BitVec 256)
  /-- STALLED_RECORD_ACCEPT (R398): A record waiting at its ingest port is accepted once every tile queue it names has room. The command is
  one port cycle at a port where a record waits. -/
  | stalledRecordAccept (n : Fin 32)
  /-- PAYLOAD_WRITE (R397): A payload reaches its tile ingress port and is written into inbox staging, or discarded for its age. -/
  | payloadWrite (n : Fin 256)
  /-- EGRESS_DRAIN (R78): The tile egress drain reads up to 8 pending PEs and passes entries to the tile-column controller. -/
  | egressDrain (n : Fin 272)
  /-- CAPTURE_PACKET (R594): A CAPTURE packet of egress records is written into its mailbag ring. -/
  | capturePacket (n : Fin 16)
  /-- QUEUE_PUSH (R413): Tweed user logic pushes an entry into a hardware queue under its policy. -/
  | queuePush (n : Fin 16384) (data : BitVec 72) (pop : Bool)
  /-- QUEUE_POP (R415): Tweed user logic pops an entry from a hardware queue. -/
  | queuePop (n : Fin 16384)
  /-- TWQ_CFG_WRITE (R444): A write to TWQ_CFG_Q or TWQ_THR_Q configures, enables or flushes a queue. -/
  | twqCfgWrite (u : Who) (n : Fin 16384) (thr : Bool) (v : Word)
  /-- TWEED_FRAME (R425): The configuration controller checks and writes one Tweed frame, with final checks after the last. -/
  | tweedFrame
  /-- REGION_RELEASE (R427): Loaded regions are released in order over 24 controller cycles and become ACTIVE. -/
  | regionRelease
  /-- TWEED_USER_INTERRUPT (R266): Tweed user logic raises sequencer line 8. -/
  | tweedUserInterrupt
  /-- GENERAL_TIMER_EXPIRY (R266): An always-on general timer claimed for the sequencer expires and raises line 6. -/
  | generalTimerExpiry (n : Fin 8)
  /-- SPI_PACKET (R441): An Onfel packet arrives on the fallback SPI target and runs in a non-secure session. -/
  | spiPacket (q : Request)
  /-- UART_PACKET (R441): An Onfel packet arrives on the fallback UART and runs in a non-secure session. -/
  | uartPacket (q : Request)
  /-- PACKET_INJECT (R553): An NI injects a packet when its class regulator holds enough tokens. -/
  | packetInject (n : Fin 111) (entry : Fin 128) (k : Packet)
  /-- TOKEN_REFILL (R553): Every 256 NoC cycles a regulator bucket gains RATE tokens. -/
  | tokenRefill (n : Fin 111) (c : Fin 4)
  /-- ROUTER_HOP (R546): A router takes a head flit, forwards it by its route code or bounces it, and probes count it. -/
  | routerHop (n : Fin 64) (e : LinkError := .clean)
  /-- READ (R545): A READ packet reaches its destination NI and is answered. -/
  | read (n : Fin 111)
  /-- WRITE (R545): A WRITE packet reaches its destination NI and is performed without response. -/
  | write (n : Fin 111)
  /-- WRITE_ACK (R545): A WRITE_ACK packet is performed and a completion returned. -/
  | writeAck (n : Fin 111)
  /-- RESPONSE (R547): A RESPONSE packet reaches the requester. -/
  | response (n : Fin 111)
  /-- MESSAGE (R545): A MESSAGE packet is delivered to its destination NI. -/
  | message (n : Fin 111)
  /-- RETURN_RECEIPT (R561): A RECEIPT from the dead-letter office reaches the source of a bounced packet. -/
  | returnReceipt (n : Fin 111)
  /-- BOUNCED_HEAD (R561): The dead-letter office takes a bounced head and sends one receipt to its source. -/
  | bouncedHead
  /-- ROUTER_RECONFIGURATION (R564): Firmware quiesces a router to change its links, slots or routes. -/
  | routerReconfiguration (n : Fin 64) (ports : BitVec 8)
  /-- ROUTER_RESUME (R564): Once packets in passage complete, new router settings take effect and the router resumes. -/
  | routerResume (n : Fin 64)
  /-- NOC_NICTL_WRITE (R568): A write to NOC_NICTL_n enables or holds injection and ejection of an NI. -/
  | nocNictlWrite (u : Who) (n : Fin 111) (v : Word)
  /-- NOC_RATE_WRITE (R570): A write to NOC_RATE_n_c sets an injection regulator. -/
  | nocRateWrite (u : Who) (n : Fin 111) (c : Fin 4) (v : Word)
  /-- DOMAIN_CLOSE (R566): The power controller marks a domain's NIs CLOSING before gating. -/
  | domainClose (n : Fin 357)
  /-- DOMAIN_GATE (R566): Once accepted requests and responses complete, the domain is gated and its NIs become ASLEEP. -/
  | domainGate (n : Fin 357)
  /-- DOMAIN_WAKE (R566): A held packet to a DRAM or pigeonhole NI wakes its domain and is delivered. -/
  | domainWake (n : Fin 357)
  /-- DOMAIN_SWITCH_ON (R686): The power controller closes a domain's switch and starts its clock. -/
  | domainSwitchOn (n : Fin 357)
  /-- RESET_RELEASE (R675): After 64 cycles of clock-good a domain's reset is released. -/
  | resetRelease (n : Fin 357)
  /-- CLOCK_NOT_READY (R677): Clock-good absent 10 ms after power sets CLKNR and holds the domain in reset. -/
  | clockNotReady (n : Fin 357)
  /-- TILE_ZEROING_COMPLETE (R36): The 2,048-cycle zeroing of a switched-on tile finishes and the tile admits nano-words. -/
  | tileZeroingComplete (n : Fin 272)
  /-- PATROL_SCRUB (R577): The DRAM controller scrubs a line, writing back a corrected error. -/
  | patrolScrub (line : BitVec 28)
  /-- STACK_LOSS (R712): A DRAM stack fails or exceeds 16 uncorrectable errors in 1 ms and is switched to its mirror. -/
  | stackLoss (n : Fin 4)
  /-- PH_OWN_WRITE (R586): A write to PH_OWN_b requests a handover of a pigeonhole bank. -/
  | phOwnWrite (u : OwnWriter) (n : Fin 64) (v : Word)
  /-- OWNER_HANDOVER (R586): The handover takes effect once every access accepted from the old owner has completed. -/
  | ownerHandover (n : Fin 64)
  /-- WIPE_COMPLETE (R591): The wipe of banks 56 to 63 finishes, leaving them ownerless and zero. -/
  | wipeComplete
  /-- HOST_DB_REQ (R618): A request doorbell advances the request tail, or sets RINGERR if invalid. -/
  | hostDbReq (p : Port) (v : Cont)
  /-- HOST_DB_REP (R617): A reply doorbell advances the reply head. -/
  | hostDbRep (p : Port) (v : Cont)
  /-- HOST_DB_EV (R617): An event doorbell advances the event head. -/
  | hostDbEv (p : Port) (v : Cont)
  /-- HOST_DB_SEQ (R266): A sequencer doorbell makes line 4 or 5 pending. -/
  | hostDbSeq (p : Port) (v : Cont)
  /-- HOST_DB_PEER (R610): A peer doorbell sets PEER at the other port. -/
  | hostDbPeer (p : Port) (v : Cont)
  /-- HOST_ISTAT_WRITE (R611): A W1C write clears interrupt causes and resends a vector for a bit left set. -/
  | hostIstatWrite (p : Port) (v : WriteData)
  /-- SEM_WRITE (R612): A write to SEM_s takes, renews or frees a semaphore with a lease. -/
  | semWrite (p : Port) (n : Fin 128) (v : Word) (tie : Option Word)
  /-- LEASE_EXPIRY (R614): A semaphore lease reaches 0, freeing it and signalling LEASE and line 10. -/
  | leaseExpiry (n : Fin 128)
  /-- BAR2_WRITE (R607): A host write through BAR2 reaches a claimed DRAM region or is refused. -/
  | bar2Write (p : Port) (off : BitVec 28) (data : List Byte)
  /-- BAR2_READ (R607): A host read through BAR2 returns DRAM data, poisoned data or Unsupported Request. -/
  | bar2Read (p : Port) (off : BitVec 28) (len : Nat)
  /-- BAR0_BANK_WINDOW_ACCESS (R608): A host access through the pigeonhole or own-mailbox window under ownership rules. -/
  | bar0BankWindowAccess (p : Port) (own wr : Bool) (n : BitVec 18) (v : Cont)
  /-- DIAG_WINDOW_ACCESS (R609): A host access through the diagnostic window acts as REG_READ or REG_WRITE in MAINTENANCE. -/
  | diagWindowAccess (p : Port) (wr : Bool) (n : BitVec 14) (v : WriteData)
  /-- SLEEP_WAKE (R692): A BAR access in SLEEP starts a wake to STANDBY. -/
  | sleepWake (p : Port) (read : Option (BitVec 24) := none)
  /-- PORT_RESET (R606): A fundamental reset, hot reset or link-down of a port closes its sessions and claims. -/
  | portReset (p : Port)
  /-- REPLY_RELEASE (R620): A reply held for lack of reply-ring room is written once room appears. -/
  | replyRelease (p : Port)
  /-- NONCE_EXPIRY (R630): A session nonce becomes invalid 10 s after issue. -/
  | nonceExpiry (p : Port)
  /-- HELLO (R628): Onfel HELLO agrees the protocol version of the port. -/
  | hello (p : Port) (q : Request)
  /-- GET_INFO_IDENTITY (R748): GET_INFO selector 0 returns identity, lifecycle, port and lane mode. -/
  | getInfoIdentity (p : Port) (q : Request)
  /-- GET_INFO_FORMATS (R632): GET_INFO selector 1 returns accepted formats per image kind. -/
  | getInfoFormats (p : Port) (q : Request)
  /-- GET_INFO_STATE (R632): GET_INFO selector 2 returns mode, geometry, transform and patch status. -/
  | getInfoState (p : Port) (q : Request)
  /-- SET_MODE (R691): Requests a mode transition. -/
  | setMode (p : Port) (q : Request)
  /-- MODE_TRANSITION_COMPLETE (R690): A mode transition finishes and HOST_MODE shows the new mode. -/
  | modeTransitionComplete
  /-- LOAD_IMAGE_FIRMWARE (R633): LOAD_IMAGE kind 0 checks and stages a firmware image. -/
  | loadImageFirmware (p : Port) (q : Request)
  /-- LOAD_IMAGE_PATCH (R306): LOAD_IMAGE kind 1 checks and stages a microcode patch blob. -/
  | loadImagePatch (p : Port) (q : Request)
  /-- LOAD_IMAGE_TWEED (R425): LOAD_IMAGE kind 2 checks the header of a Tweed image and stages it. -/
  | loadImageTweed (p : Port) (q : Request)
  /-- LOAD_IMAGE_PROGRAM (R219): LOAD_IMAGE kind 3 checks and stages an array program image. -/
  | loadImageProgram (p : Port) (q : Request)
  /-- LOAD_IMAGE_CHANNEL_MAP (R447): LOAD_IMAGE kind 4 checks and stages a channel map. -/
  | loadImageChannelMap (p : Port) (q : Request)
  /-- COMMIT (R634): Applies staged images and placement as one whole, rolling back on failure. -/
  | commit (p : Port) (q : Request)
  /-- PLACE (R467): Starts the sorting office computing a placement in staging. -/
  | place (p : Port) (q : Request)
  /-- PLACE_COMPLETE (R467): PLACE finishes and replies OK or NO_PLACEMENT. -/
  | placeComplete
  /-- GET_PLACEMENT_REPORT (R474): GET_PLACEMENT query 0 writes the placement report to DRAM. -/
  | getPlacementReport (p : Port) (q : Request)
  /-- GET_PLACEMENT_POSTCODE (R474): GET_PLACEMENT query 1 returns the PE, offset and width of a postcode. -/
  | getPlacementPostcode (p : Port) (q : Request)
  /-- GET_PLACEMENT_PE (R474): GET_PLACEMENT query 2 returns the postcodes held at a PE. -/
  | getPlacementPe (p : Port) (q : Request)
  /-- LOAD_PARAMS (R635): Writes kept planes of selected tiles from DRAM, by side slots in RUN. -/
  | loadParams (p : Port) (q : Request)
  /-- LOAD_PARAMS_TIMEOUT (R635): The LOAD_PARAMS timeout expires and tiles not yet begun report TIMEOUT. -/
  | loadParamsTimeout
  /-- BUDGET_GRANT (R520): Replaces the budget in effect, at once or at the next window start. -/
  | budgetGrant (p : Port) (q : Request)
  /-- BUDGET_QUERY_LEDGER (R632): BUDGET_QUERY 0 returns the budget and ledger. -/
  | budgetQueryLedger (p : Port) (q : Request)
  /-- BUDGET_QUERY_SECTION (R632): BUDGET_QUERY 1 returns predicted and measured energy of a section. -/
  | budgetQuerySection (p : Port) (q : Request)
  /-- RUN_START (R636): Onfel RUN_START is checked against the budget and accepted to await TSTREAM. -/
  | runStart (p : Port) (q : Request)
  /-- RUN_STOP (R636): Cancels an accepted RUN_START in ARMED, or requests the stop of a run. -/
  | runStop (p : Port) (q : Request)
  /-- RUN_STOP_EFFECT (R636): At the first beat edge after RUN_STOP the run is stopped and the device enters ARMED. -/
  | runStopEffect
  /-- CAPTURE_READ (R632): Copies mailbag records into mailbox scratch and advances MBG_RD_k. -/
  | captureRead (p : Port) (q : Request)
  /-- PROBE_SET (R555): Configures or turns off a claimed NoC probe. -/
  | probeSet (p : Port) (q : Request)
  /-- PROBE_READ (R632): Returns a probe's counters, write position and loss count. -/
  | probeRead (p : Port) (q : Request)
  /-- CLAIM (R640): Takes a resource whole for the session. -/
  | claim (p : Port) (q : Request)
  /-- RELEASE (R640): Releases a resource the session holds. -/
  | release (p : Port) (q : Request)
  /-- SESSION_OPEN_NONSECURE (R629): SESSION_OPEN op 0 opens a non-secure session. -/
  | sessionOpenNonsecure (p : Port) (q : Request)
  /-- SESSION_OPEN_CHALLENGE (R630): SESSION_OPEN op 1 returns a 32-byte nonce. -/
  | sessionOpenChallenge (p : Port) (q : Request)
  /-- SESSION_CLOSE (R629): SESSION_OPEN op 2 closes a session. -/
  | sessionClose (p : Port) (q : Request)
  /-- SESSION_OPEN_SECURE (R630): SESSION_OPEN op 3 verifies a signed nonce and opens a secure session. -/
  | sessionOpenSecure (p : Port) (q : Request)
  /-- ATTEST (R667): Returns a signed report of the measurements in effect. -/
  | attest (p : Port) (q : Request)
  /-- SEAL_RUN (R668): Returns a signed report of a named run. -/
  | sealRun (p : Port) (q : Request)
  /-- WIPE (R590): Wipes banks 56 to 63 and/or secure DRAM regions. -/
  | wipe (p : Port) (q : Request)
  /-- LIFECYCLE (R655): Burns a lifecycle transition, wipes secrets and performs a system reset. -/
  | lifecycle (p : Port) (q : Request)
  /-- RESET_CORE (R637): RESET level 0 performs a core reset 100 µs after the reply. -/
  | resetCore (p : Port) (q : Request)
  /-- RESET_SYSTEM (R637): RESET level 1 performs a system reset 100 µs after the reply. -/
  | resetSystem (p : Port) (q : Request)
  /-- RESET_BLOCK (R637): RESET level 2 quiesces and resets one target block. -/
  | resetBlock (p : Port) (q : Request)
  /-- SELFTEST (R632): Runs the selected built-in tests in MAINTENANCE. -/
  | selftest (p : Port) (q : Request)
  /-- READBACK (R435): Snapshots one Tweed region and writes its frames to claimed DRAM. -/
  | readback (p : Port) (q : Request)
  /-- REG_READ (R747): Returns up to 256 register values of a target block. -/
  | regRead (p : Port) (q : Request)
  /-- REG_WRITE (R747): Writes up to 256 registers of a target block as separate parts. -/
  | regWrite (p : Port) (q : Request)
  /-- REGISTER_WRITE (R9): A write to a register without behaviour of its own acts as its access codes give. -/
  | registerWrite (u : Who) (blk : BitVec 12) (off : Word) (v : WriteData)
  /-- SEC_WORLD_WRITE (R645): A write to a world register changes holders' worlds, clearing those made non-secure. -/
  | secWorldWrite (u : Who) (off : Word) (v : Word)
  /-- WORLD_CLEAR_COMPLETE (R645): Clearing of holders changed from secure to non-secure finishes and the reply follows. -/
  | worldClearComplete
  /-- RST_BOOTLEN_WRITE (R695): A host writes the firmware image length and the boot ROM checks the image. -/
  | rstBootlenWrite (p : Port) (v : Word)
  /-- BOOT_TIMEOUT (R695): No host firmware length within 10 s: the golden firmware boots and FWFAIL is set. -/
  | bootTimeout
  /-- FRK_ELO_READ (R540): A read of FRK_ELO latches FRK_EHI. -/
  | frkEloRead
  /-- FRANKING_SAMPLE (R512): Every 10 µs the meter samples the rails, charges the ledger and applies budget and peak limits. -/
  | frankingSample (m : Sample)
  /-- BUDGET_WINDOW_START (R523): A new budget window begins, clearing charge, VARIANT and deadtime. -/
  | budgetWindowStart
  /-- AVS_STATUS (R721): AVSBus reports the new voltage reached, allowing the divider change. -/
  | avsStatus
  /-- AVS_TIMEOUT (R721): No AVSBus confirmation within 20 µs: the clock point is kept and the target held below. -/
  | avsTimeout
  /-- DIVIDER_SWITCH (R144): At a safe point after a 64-cycle drain the array clock divider changes. -/
  | dividerSwitch
  /-- BOOST_WEAR_SAVE (R530): Every minute the boost-time count is saved to the counter store. -/
  | boostWearSave
  /-- THERMAL_TRIP (R534): The hottest sensor reaches 105 °C; the clock stretches and BUSY asserts THERMAL. -/
  | thermalTrip
  /-- THERMAL_FALLBACK_SWITCH (R535): At the next safe point after a trip the clock point becomes THERMAL FALLBACK. -/
  | thermalFallbackSwitch
  /-- THERMAL_RECOVERY (R535): After 100 ms at or below 95 °C the meter restores the target clock point. -/
  | thermalRecovery
  /-- THERMAL_SHUTDOWN (R536): At 120 °C every switched domain is gated until reset. -/
  | thermalShutdown
  /-- CURRENT_LIMIT (R537): VDD_ARRAY above 360 A lengthens the array cycle by one step. -/
  | currentLimit
  /-- LIMIT_STEP_REMOVE (R537): Every 1 µs below 350 A one stretch step is removed. -/
  | limitStepRemove
  /-- TAMPER_TRIP (R659): A tamper sensor trips, wiping secrets and performing a system reset. -/
  | tamperTrip (n : Fin 3)
  /-- POWER_ON_RESET (R670): POR_N low for 1 µs causes a power-on reset. -/
  | powerOnReset
  /-- BROWN_OUT (R725): VDD_AON below 1.62 V for 1 µs causes a power-on reset. -/
  | brownOut
  /-- SYSTEM_RESET (R670): SYSRST_N low for 1 µs causes a system reset. -/
  | systemReset
  /-- WATCHDOG_EXPIRY (R671): The system watchdog unserviced for 500 ms causes a system reset. -/
  | watchdogExpiry
  /-- PLL_LOSS_OF_LOCK (R684): The Canvas, NoC or DRAM PLL loses lock and a system reset follows; or a port's PCIe PLL, which takes its link
  down. -/
  | pllLossOfLock (port : Option Port := none)
  /-- OUTPUT_PLL_LOSS_OF_LOCK (R684): An output quad PLL loses lock and its lanes go to electrical idle. -/
  | outputPllLossOfLock (n : Fin 4)
  /-- TWEED_PLL_LOSS_OF_LOCK (R684): A Tweed user PLL loses lock and the clocks it drives stop. -/
  | tweedPllLossOfLock (n : Fin 8)
  /-- START_UP (R694): After a power-on or system reset the device runs the start-up sequence to STANDBY. -/
  | startUp (e : StartUp)
  /-- TILE_ROW_REPAIR (R703): On a tile fault report the fault manager changes the row assignment and reloads moved tiles. -/
  | tileRowRepair
  /-- SEQUENCER_FAULT (R702): On a sequencer fault report the fault manager requests a core reset and checkpoint restart. -/
  | sequencerFault
  /-- CHECKPOINT_RESTART (R701): The program restarts at the first beat after the restart step from its last checkpoint. -/
  | checkpointRestart
  /-- HEARTBEAT_MISSED (R709): A service core misses two heartbeats and its standby takes over its function. -/
  | heartbeatMissed (n : Fin 4)
  /-- EXTEST (R738): Boundary-scan EXTEST ends any run and drives pins from the boundary register. -/
  | extest
  /-- SAMPLE_PRELOAD (R737): Boundary-scan SAMPLE/PRELOAD samples or preloads the boundary register. -/
  | samplePreload
  /-- IDCODE (R737): Boundary-scan IDCODE selects the identification register. -/
  | idcode
  /-- CLAMP (R738): Boundary-scan CLAMP ends any run and holds pins from the boundary register. -/
  | clamp
  /-- HIGHZ (R738): Boundary-scan HIGHZ ends any run and releases outputs. -/
  | highz
  /-- EXTEST_PULSE (R738): Boundary-scan EXTEST_PULSE ends any run and tests AC-coupled pairs. -/
  | extestPulse
  /-- EXTEST_TRAIN (R738): Boundary-scan EXTEST_TRAIN ends any run and tests AC-coupled pairs with pulse trains. -/
  | extestTrain
  /-- DEBUG (R681): The DEBUG instruction gives debug access only after authenticated unlock. -/
  | debug (u : Option DebugSig := none)
  /-- BYPASS (R737): Boundary-scan BYPASS selects the one-bit bypass register. -/
  | bypass (op : BitVec 8 := 0xFF)
  /-- ILLEGAL_INSTRUCTION (R166): The sequencer reaches an instruction whose opcode no table lists, such as 0x95 or 0xA7, and raises trap 0x01. -/
  | illegalInstruction (w : BitVec 48)
  /-- DISCARDED_TSTREAM_FRAME (R388): A TSTREAM frame with a bad CRC, STOP 0, reserved CODE, non-zero ARG or another partition is discarded, counting in TIM_CMDERR where R388 says so. The frame `f` holds bit position 1 of R386 in bit 27. -/
  | discardedTstreamFrame (f : BitVec 28)
  /-- UNKNOWN_OPCODE_REQUEST (R625): A host request packet with an opcode not listed in R632 is answered with UNKNOWN_OPCODE. -/
  | unknownOpcodeRequest (p : Port) (q : Request)
  /-- OUTPUT_PLL_LOCK (R684): An output lane quad PLL regains lock and its lanes leave electrical idle. -/
  | outputPllLock (n : Fin 4)
  /-- TWEED_PLL_LOCK (R684): A Tweed user PLL regains lock and the clocks it drives run again. -/
  | tweedPllLock (n : Fin 8)
  /-- PCIE_LINK_UP (R688): A host port's PCIe link trains up again after a link-down or reset, and its domain is powered and enumerable. -/
  | pcieLinkUp (p : Port) (c : PortConfig := {})
  /-- BLOCK_RESET_TIMEOUT (R637): RESET level 2 finds NI quiescing unfinished after 10 ms, restores INJEN and EJEN, leaves the block unreset and replies TIMEOUT. -/
  | blockResetTimeout
  /-- TILE_POWER_GOOD_LOSS (R697): A tile domain loses power-good and a tile fault is reported to the fault manager. -/
  | tilePowerGoodLoss (n : Fin 272)
  /-- SERVICE_CORE_UNCORRECTABLE_ERROR (R709): A service core takes an uncorrectable error in its own memories and is treated as failed, so that its standby takes over. -/
  | serviceCoreUncorrectableError (n : Fin 4)
  deriving DecidableEq, Repr

end Sys2Proof
end

