-- ==== Sys2Proof/Config.lean ====
section
/-! DEFINITION. What one part fixes and the spec does not print (ROM contents, keys, one-way functions), and the free
values: all opaque, so no proof can see them. -/

namespace Sys2Proof

/-- The free value drawn when the counter `State.free` stands at `n`, `w` bits wide (DESIGN CHOICE, log entry 4). -/
opaque Config.free (n w : Nat) : BitVec w

/-- The microcode ROM: the micro-word at ROM micro-address `a` (R300); its contents are not printed (DEDUCED, log entry 5). -/
opaque Config.rom (a : Nat) : BitVec 40

/-- The entry table of R282: start address for an opcode and its 3-bit index (DEDUCED, log entry 5). -/
opaque Config.entry (opcode index : Nat) : BitVec 15

/-- The nano-store of R122: bits [77:0] of entry `a` (DEDUCED, log entry 5). -/
opaque Config.nanoStore (a : Nat) : BitVec 78

/-- The check bits of the (128,120) SEC-DED code of R121; the code's matrix is not printed (DEDUCED, log entry 5). -/
opaque Config.chk (w : BitVec 120) : BitVec 8

/-- Silicon revision A1 (`true`) or A0 (R2). -/
opaque Config.revA1 : Bool

/-- SHA-512 (DESIGN CHOICE, log entry 8). -/
opaque Config.sha512 (b : List Byte) : BitVec 512

/-- Ed25519 verification of a signature by a 32-byte public key (DESIGN CHOICE, log entry 8). -/
opaque Config.edVerify (key : BitVec 256) (msg : List Byte) (sig : BitVec 512) : Bool

/-- Ed25519 signature by the device attestation key (DESIGN CHOICE, log entry 8). -/
opaque Config.edSign (msg : List Byte) : BitVec 512

/-- The public key behind Aduajo patch-signing key `i` whose digest the boot ROM holds (R305). -/
opaque Config.patchKey (i : Nat) : BitVec 256

/-- The public key behind Aduajo firmware key `i` whose digest the boot ROM holds (R662). -/
opaque Config.fwKey (i : Nat) : BitVec 256

/-- The public key behind Aduajo service key `i`, key index 8 + i, whose digest the boot ROM holds (R652). -/
opaque Config.serviceKey (i : Nat) : BitVec 256

/-- The OTP coefficient of R516 for an operation class at ECONOMY, NOMINAL or BOOST, in units of 0.001 pJ. -/
opaque Config.coefficient (cls cp : Nat) : Nat

/-- Whether every multiplexer select field of a logic and routing frame is one-hot or all zeros (R425): the fabric's map is
not printed (DESIGN CHOICE, log entry 23). -/
opaque Config.muxOk (index : Nat) (data : BitVec 4096) : Bool

/-- The use firmware gives entry `i` of NI `n`'s route table (R550): VALID, VC and DST; the tables are not printed (DESIGN CHOICE, log entry 28). -/
opaque Config.routeUse (n i : Nat) : BitVec 10

/-- What frame `index` gives the flip-flops of its region as initial values: the fabric's map is not printed (DESIGN CHOICE, log entry 23). -/
opaque Config.flopInit (index : Nat) (data : BitVec 4096) : BitVec 40960

/-- The isolation values of the boundary signals in a region control frame (R419; DESIGN CHOICE, log entry 29). -/
opaque Config.isolation (data : BitVec 4096) : BitVec 2048

/-- A configuration frame with the shadow values of flip-flops and queue controllers in their places (R435): the flip-flops, the entries of
the queues, TWQ_CFG, TWQ_THR and TWQ_DROP of each, and what each pop port last returned (DESIGN CHOICE, log entry 23). -/
opaque Config.shadow (index : Nat) (data : BitVec 4096) (flops : BitVec 40960) (queues : List (List (BitVec 72)))
  (control : List (BitVec 24)) (popped : List (BitVec 72 × Bool)) : BitVec 4096

/-- The bits of a queue's span of `depth` entries of `width` bits that holds the entries given: which entry of its span a queue begins at is
not given (DESIGN CHOICE, log entry 23). -/
opaque Config.queueSpan (width depth : Nat) (entries : List (BitVec 72)) : Nat

/-- The user PLLs whose outputs the spines of a region carry, in its control frame (R407, R419; DESIGN CHOICE, log entry 29). -/
opaque Config.userPlls (data : BitVec 4096) : BitVec 8

/-- Bytes of the device certificate chain in the flash (R439, R666). -/
opaque Config.certLength : Nat

/-- The value that a region control frame gives the TWQ register at an offset (R419, R443): the frame's layout is not printed
(DESIGN CHOICE, log entry 29). -/
opaque Config.controlFrame (data : BitVec 4096) (off : Nat) : BitVec 24

/-- The 24-bit version that HELLO reports for the firmware with a measurement (R632): the spec gives no field for it
(DESIGN CHOICE, log entry 31). -/
opaque Config.fwVersion (m : BitVec 512) : Word

/-- Aduajo's JEP106 code in IDCODE (R737): the BSDL file states it (DESIGN CHOICE, log entry 40). -/
opaque Config.jep106 : BitVec 11

/-- The bytes of a placement report with the items of R474 given as numbers in the order of the table: the report is not laid out
(DESIGN CHOICE, log entry 30). -/
opaque Config.reportBytes (items : List Int) : List Byte

/-- Byte `a` of the fallback flash as it was made (R439: golden firmware, baseline patch, certificates, golden Tweed image). -/
opaque Config.flash (a : Nat) : Byte

end Sys2Proof
end

