-- ==== Sys2Proof/Machine/Bits.lean ====
section
/-! DEFINITION. Bit fields, byte order, saturating counters, check codes, and the operations on canonical sparse
stores. -/

namespace Sys2Proof.Machine

/-- The value a sparse store holds at `k`; `d` is what an unlisted key reads as. -/
def sget {α : Type} (d : α) (m : Sparse α) (k : Nat) : α :=
  match m with
  | [] => d
  | (a, v) :: r => if a = k then v else sget d r k

/-- Ordered insertion, replacing an equal key. -/
def sins {α : Type} (m : Sparse α) (k : Nat) (v : α) : Sparse α :=
  match m with
  | [] => [(k, v)]
  | (a, u) :: r => if k < a then (k, v) :: (a, u) :: r else if k = a then (k, v) :: r else (a, u) :: sins r k v

/-- A store without key `k`. -/
def sdel {α : Type} (m : Sparse α) (k : Nat) : Sparse α := m.filter (fun e => e.1 != k)

/-- Writes `v` at `k`, keeping the canonical form. -/
def sput {α : Type} [DecidableEq α] (d : α) (m : Sparse α) (k : Nat) (v : α) : Sparse α :=
  if v = d then sdel m k else sins m k v

/-- The canonical form: strictly rising keys and no value equal to the default. -/
def swf {α : Type} [DecidableEq α] (d : α) (m : Sparse α) : Bool :=
  match m with
  | [] => true
  | (a, v) :: r => v != d && r.all (fun e => a < e.1) && swf d r

/-- Bits [lo + len − 1 : lo] as a number. -/
def fld {n : Nat} (w : BitVec n) (lo len : Nat) : Nat := w.toNat / 2 ^ lo % 2 ^ len

/-- `w` with bits [lo + len − 1 : lo] replaced by the low bits of `v`. -/
def setFld {n : Nat} (w : BitVec n) (lo len v : Nat) : BitVec n :=
  (w &&& ~~~(BitVec.ofNat n ((2 ^ len - 1) * 2 ^ lo))) ||| BitVec.ofNat n (v % 2 ^ len * 2 ^ lo)

/-- `w` with bit `i` set to `b`. -/
def setBit {n : Nat} (w : BitVec n) (i : Nat) (b : Bool) : BitVec n := setFld w i 1 b.toNat

/-- R82: a counter that saturates at 0xFF_FFFF. -/
def satAdd (w : Word) (k : Nat) : Word := BitVec.ofNat 24 (min 0xFFFFFF (w.toNat + k))

/-- The `n`-bit value whose bit `i` is `p i`. -/
def bitsOf (n : Nat) (p : Nat → Bool) : BitVec n :=
  match n with
  | 0 => 0#0
  | k + 1 => BitVec.cons (p k) (bitsOf k p)

/-- How many bits of a word are 1. -/
def popcount {n : Nat} (w : BitVec n) : Nat := ((List.range n).filter (fun i => w.getLsbD i)).length

/-- The positions of the 1 bits, rising. -/
def ones {n : Nat} (w : BitVec n) : List Nat := (List.range n).filter (fun i => w.getLsbD i)

/-- The position of the lowest 1 bit, or `n`. -/
def lowest {n : Nat} (w : BitVec n) : Nat := ((ones w).head?).getD n

/-- A two's-complement number narrowed to `n` bits. -/
def ofInt (n : Nat) (i : Int) : BitVec n := BitVec.ofInt n i

/-- Little-endian value of a byte list (R5). -/
def leNat (b : List Byte) : Nat :=
  match b with
  | [] => 0
  | x :: r => x.toNat + 256 * leNat r

/-- The `k` little-endian bytes of a number (R5). -/
def leBytes (k n : Nat) : List Byte :=
  match k with
  | 0 => []
  | j + 1 => BitVec.ofNat 8 n :: leBytes j (n / 256)

/-- The little-endian field of `len` bytes at byte offset `off` of an image. -/
def leAt (b : List Byte) (off len : Nat) : Nat := leNat ((b.drop off).take len)

/-- R624: the bytes of a string, three to a word. -/
def packBytes (b : List Byte) : List Word :=
  (List.range ((b.length + 2) / 3)).map (fun i => BitVec.ofNat 24 (leNat ((b.drop (3 * i)).take 3)))

/-- R624: the first `n` bytes that words carry. -/
def unpackBytes (n : Nat) (ws : List Word) : List Byte :=
  (ws.flatMap (fun w => leBytes 3 w.toNat)).take n

/-- The `k` bytes of a 512-bit digest or signature, byte 0 first. -/
def digestBytes (d : BitVec 512) : List Byte := leBytes 64 d.toNat

/-- One bit of a most-significant-bit-first cyclic redundancy check of width `w`. -/
def crcBit (w poly : Nat) (c : Nat) (b : Bool) : Nat :=
  let top := (c / 2 ^ (w - 1) % 2 == 1) != b
  let sh := c * 2 % 2 ^ w
  if top then Nat.xor sh poly else sh

/-- One byte, most significant bit first. -/
def crcByte (w poly : Nat) (c : Nat) (x : Byte) : Nat :=
  [7, 6, 5, 4, 3, 2, 1, 0].foldl (fun a i => crcBit w poly a (x.getLsbD i)) c

/-- The CRC-24 of R624 over the low three bytes of each payload container. -/
def crc24 (ws : List Word) : Word :=
  BitVec.ofNat 24 ((ws.flatMap (fun w => leBytes 3 w.toNat)).foldl (crcByte 24 0x864CFB) 0xB704CE)

/-- The CRC-32 of the IEEE 802.3 frame check sequence (R418, R484): bytes taken least significant bit first. -/
def crc32 (b : List Byte) : Cont :=
  let bit (c : Nat) (x : Bool) : Nat := if (c % 2 == 1) != x then Nat.xor (c / 2) 0xEDB88320 else c / 2
  let byte (c : Nat) (x : Byte) : Nat := [0, 1, 2, 3, 4, 5, 6, 7].foldl (fun a i => bit a (x.getLsbD i)) c
  BitVec.ofNat 32 (Nat.xor (b.foldl byte 0xFFFFFFFF) 0xFFFFFFFF)

/-- The CRC-6 of R386 over `n` bits of `w`, the most significant first. -/
def crc6 (w : Nat) (n : Nat) : Nat :=
  match n with
  | 0 => 0
  | k + 1 => crcBit 6 0x03 (crc6 (w / 2) k) (w % 2 == 1)

/-- Replaces the element at position `i`. -/
def setAt {α : Type} (l : List α) (i : Nat) (v : α) : List α := l.set i v

/-- Whether a list has no repeats. -/
def distinct (l : List Nat) : Bool :=
  match l with
  | [] => true
  | x :: r => !(r.contains x) && distinct r

end Sys2Proof.Machine
end

