-- ==== Sys2Proof/Machine/State.lean ====
section
/-! DEFINITION. The state of the VQ7700: every register, memory, queue, mode and pin the spec gives the module, as plain
data, and the state right after a power-on reset. -/

namespace Sys2Proof.Machine

/-- The model has no fault outcome of its own: traps, statuses and halts are states (INVENTORY.md, Faults). The one
constructor is raised by nobody; it only makes the type inhabited. Safe. -/
inductive Fault where
  /-- Raised by no command. -/
  | never
  deriving DecidableEq, Repr

/-- Why the model has no meaning for a command. -/
inductive Refusal where
  /-- Raised by an arm of `exec` whose meaning is not written. Safe. -/
  | notModelled (mnemonic : String)
  /-- Raised by a meaning whose operand is outside its row: a packet that does not hold the row's opcode, an instruction word whose
  opcode the tables list, or a test-port opcode of another row. No such event exists. Safe. -/
  | illFormed
  deriving DecidableEq, Repr

/-- The status codes of R638. -/
inductive Status where
  | ok | partly | busy | domainAsleep | routeFault | denied | badSignature | versionMismatch | resourceClaimed
  | timeout | badParameter | uncorrectable | leaseExpired | wrongMode | unknownOpcode | rolledBack | overBudget
  | noPlacement | lifecycle | queueFull | badFrame | multidrive | integrity
  deriving DecidableEq, Repr

/-- The code of a status in R638. -/
def Status.code : Status → Nat
  | .ok => 0x00 | .partly => 0x01 | .busy => 0x02 | .domainAsleep => 0x03 | .routeFault => 0x04 | .denied => 0x05
  | .badSignature => 0x06 | .versionMismatch => 0x07 | .resourceClaimed => 0x08 | .timeout => 0x09
  | .badParameter => 0x0A | .uncorrectable => 0x0B | .leaseExpired => 0x0C | .wrongMode => 0x0D
  | .unknownOpcode => 0x0E | .rolledBack => 0x0F | .overBudget => 0x10 | .noPlacement => 0x11 | .lifecycle => 0x12
  | .queueFull => 0x13 | .badFrame => 0x14 | .multidrive => 0x15 | .integrity => 0x16

/-- The six modes of R689. -/
inductive Mode where
  | sleep | standby | configure | armed | run | maintenance
  deriving DecidableEq, Repr

/-- The mode codes of the command reference (R632). -/
def Mode.code : Mode → Nat
  | .sleep => 0 | .standby => 1 | .configure => 2 | .armed => 3 | .run => 4 | .maintenance => 5

/-- Why scalar issue does not go on (R190, R230, R244, R350, R29). -/
inductive Wait where
  /-- Issue goes on. -/
  | none
  /-- A WAITB waits for a beat edge (R190). -/
  | beat
  /-- A SAVE waits for the spiller (R230). -/
  | save
  /-- A RESTORE waits for the spiller (R230). -/
  | restore
  /-- A window access is under way (R29): the opcode and operand bits of its instruction. -/
  | window (op : Nat) (w : BitVec 40)
  /-- The hold of R350 after a macro with a check tail. -/
  | check
  deriving DecidableEq, Repr

/-- A spill or fill record being moved (R239). -/
structure SpillJob where
  fill : Bool
  left : Nat
  deriving DecidableEq, Repr

/-- An open secure gate call (R213). -/
structure Gate where
  ret : BitVec 18
  priv : Bool
  world : Bool
  top : Fin 12
  deriving DecidableEq, Repr

/-- The array sequencer: registers of R158, system registers of R221 and R279, and issue state. -/
structure Seq where
  pc : BitVec 18
  /-- Data registers by physical number: 0 to 7 globals, 8 + 16w + i ring window w, 200 + i trap window. -/
  dRegs : Sparse Word
  /-- Dirty bit of each physical group of four (R232). -/
  dDirty : BitVec 54
  aRegs : Sparse Word
  acRegs : Sparse (BitVec 72)
  acDirty : BitVec 8
  /-- SEQ_CR [4:0]: D, N, Z, C, V. -/
  cr : BitVec 5
  fpcsr : BitVec 22
  rst : Bool
  tl : Bool
  locked : Bool
  ie : Bool
  priv : Bool
  world : Bool
  rptc : Word
  cycHi : Word
  pmHi : Word
  rstart : Word
  frkst : Word
  phwin : Word
  drwin : Word
  faddr : Word
  fstat : Word
  isecBase : BitVec 19
  dsecBase : BitVec 19
  gates : Sparse Word
  stcnt : Sparse Word
  sten : Sparse Word
  wctl : Word
  spillBase : BitVec 19
  spillLimit : BitVec 19
  spillPtr : BitVec 19
  top : Fin 12
  res : Nat
  /-- The world of each resident frame, top frame first (R241), and of each spilled one, by the address of its record's header. -/
  frameWorlds : List Bool
  spilled : List (Nat × Bool)
  job : Option SpillJob
  /-- Pointer writes held until the record in progress completes (R243): 0 base, 1 limit, 2 pointer. -/
  ptrWrites : List (Fin 3 × BitVec 19)
  ilvl : Nat
  depth : Nat
  tw : Bool
  tvbase : BitVec 10
  tvbaseS : BitVec 10
  hcause : Word
  ipend : BitVec 16
  imask : BitVec 16
  isec : BitVec 16
  gate : Option Gate
  wait : Wait
  /-- The sequencer is halted: HALT (R192) or a halting fault (R261). -/
  halted : Bool
  /-- A halting fault (R261), or the fault manager has stopped the sequencer (R145). -/
  stopped : Bool
  freeAt : Nat
  /-- The specifier whose loaded value the next instruction may not use without a stall (R169). -/
  loaded : Option (BitVec 6)
  /-- The first cycle after those in which the issuing instruction accesses data memory (R239). -/
  dataAt : Nat
  bphase : Nat
  /-- SEQ_BPHASE in the array cycle before this one (D14 of an interrupt at a safe-point word, R257, R259). -/
  bprev : Nat
  /-- The array cycle from which SEQ_CYCLO counts (R220, R225). -/
  cycBase : Nat
  /-- A fill met an uncorrectable data-memory word: 1 until trap 0x0C is taken for it, then 2 (R178, R238). -/
  fillErr : Nat
  /-- Owner code of the processor whose registers these are: 3 the sequencer, 4 + i service core i (R585). -/
  unit : Nat
  deriving DecidableEq, Repr

/-- The sequencer's memories (R175, R178). -/
structure SeqMem where
  imem : Sparse (BitVec 48)
  dmem : Sparse Word
  imemBad : List Nat
  dmemBad : List Nat
  deriving DecidableEq, Repr

/-- The run-entry values a COMMIT records from the header of R215 (R220). -/
structure RunEntry where
  entry : BitVec 18
  epriv : Bool
  eworld : Bool
  tvbase : BitVec 10
  spBase : BitVec 19
  spLimit : BitVec 19
  fpcsr : BitVec 17
  imask : BitVec 16
  wctl : BitVec 8
  deriving DecidableEq, Repr

/-- An array macro as read at dispatch (R193, R283). -/
structure Macro where
  op : Nat
  word : BitVec 40
  /-- Bases of as1 (as), as2, as3 and ad. -/
  b1 : Nat
  b2 : Nat
  b3 : Nat
  bd : Nat
  /-- Offsets gathered, one for each pass (R284), as signed (dx, dy). -/
  offs : List (Int × Int)
  /-- The broadcast value of ABCAST. -/
  cast : Word
  /-- SEQ_FPCSR.RM and AEN at dispatch. -/
  rm : Nat
  aen : BitVec 5
  /-- Level 1 (R275). -/
  level : Bool
  /-- Early-out is permitted (R341). -/
  early : Bool
  /-- R196: the result is unpredictable in every PE. -/
  bad : Bool
  deriving DecidableEq, Repr

/-- A global-OR scan under way (R295). -/
structure Scan where
  counter : Nat
  len : Nat
  /-- Issue cycles of its GSCAN words, oldest first, each with the global OR of its cycle once that is known. -/
  words : List (Nat × Bool)
  ended : Bool
  deriving DecidableEq, Repr

/-- A macro in issue, or suspended: the micro-context of R296. -/
structure Run where
  mac : Macro
  upc : Nat
  p0 : Nat
  p1 : Nat
  p2 : Nat
  p3 : Nat
  w0 : Nat
  w1 : Nat
  w2 : Nat
  l0 : Nat
  l1 : Nat
  l2 : Nat
  k : Nat
  ttp : BitVec 8
  dlv : BitVec 5
  resume : Nat
  /-- Words issued so far, and the macro's cycle count once known. -/
  issued : Nat
  total : Option Nat
  /-- A match register has sent this macro to the patch RAM (R301), so its words run from the micro-words. -/
  patched : Bool
  /-- Scans whose result has not landed in L2, oldest first; and the counters that an LDC has loaded for a scan not yet begun (R295). -/
  scans : List Scan
  loaded : BitVec 3
  /-- Partial-product steps that the scan of a multiply with early-out has called for so far (R341). -/
  steps : Nat
  /-- AGATHOR passes completed. -/
  pass : Nat
  /-- R276: a handler wrote a source or the destination while the macro was suspended. -/
  spoiled : Bool
  deriving DecidableEq, Repr

/-- What a word in the pipeline does at execution (DEDUCED, log entry 5). -/
inductive WordKind where
  /-- Exactly its bits, under R37. -/
  | plain
  /-- Word `i` of the `total` words of a macro whose ROM routine is known by its results only. -/
  | rom (m : Macro) (i total : Nat) (spoiled : Bool)
  /-- Its bits, as a word of macro `m` from the patch RAM: the first after the words of a ROM routine that a match `cut`, or the `last`,
  which leaves a `spoiled` macro's result unpredictable (R276). -/
  | routine (m : Macro) (cut last spoiled : Bool)
  /-- Its bits, after a macro whose words have world `wt` was suspended or abandoned with its destination part written (R276, R278). -/
  | broken (m : Macro) (wt : Bool)
  deriving DecidableEq, Repr

/-- A nano-word in the broadcast pipeline (R136). -/
structure PipeWord where
  bits : BitVec 128
  issued : Nat
  kind : WordKind
  /-- The word lies inside a locked section (R134). -/
  locked : Bool
  deriving DecidableEq, Repr

/-- A patch match register (R304). -/
structure PatchMatch where
  index : Nat
  mtch : Nat
  target : Nat
  resume : Nat
  deriving DecidableEq, Repr

/-- A microcode patch: blob fields, words and measurement (R303, R309). -/
structure Patch where
  format : Nat
  svn : Nat
  id : Nat
  matches_ : List PatchMatch
  uwords : List (BitVec 40)
  nwords : List (BitVec 78)
  digest : BitVec 512
  deriving DecidableEq, Repr

/-- The check of R350 under way. -/
structure Check where
  aen : BitVec 5
  /-- Issue cycles of the flag words issued so far, oldest first. -/
  flagWords : List Nat
  /-- The tail has been queued. -/
  queued : Bool
  deriving DecidableEq, Repr

/-- The array unit and the broadcast pipeline (07, 04). -/
structure ArrayUnit where
  run : Option Run
  susp : Option Run
  /-- SEQ_TSTATE.DEPTH after the entry that suspended it. -/
  suspDepth : Nat
  /-- Words queued ahead of the macro (save, restore, check tail): bits [77:0], with `true` for a flag word. -/
  inject : List (BitVec 78 × Bool)
  check : Option Check
  /-- A suspended macro, with the world of its words, whose partial destination the next word in the pipeline brings (R276). -/
  broken : Option (Macro × Bool)
  /-- The word issued in the last array cycle was a macro's and a safe point follows it (R141). -/
  lastSafe : Bool
  isn : BitVec 16
  pipe : List PipeWord
  patch : Option Patch
  /-- Patch words holding an uncorrectable error, by micro-address or 0x8000 + nano entry (R311). -/
  patchBad : List Nat
  deriving DecidableEq, Repr

/-- A side access waiting at a tile-column controller (R148 to R151). -/
structure Side where
  tile : Nat
  write : Bool
  addr : Nat
  data : BitVec 4096
  deriving DecidableEq, Repr

/-- One codeword position in error: bit-row of a segment of a physical tile, position 0 to 71 (R60). -/
structure Flip where
  tile : Nat
  seg : Nat
  addr : Nat
  pos : Nat
  deriving DecidableEq, Repr

/-- The Canvas: every PE's state (R34) by physical position, and the tile-column controllers' own state. -/
structure Canvas where
  a : Plane
  b : Plane
  c : Plane
  m : Plane
  g : Plane
  n : Plane
  inbox : Sparse Plane
  stage : Sparse Plane
  /-- Staging bits written since the last TAKE (R72). -/
  written : Sparse Plane
  outbox : Sparse Plane
  egress : Sparse Plane
  pending : Plane
  /-- The postmark of the POST of each pending PE, by bit. -/
  mark : Sparse Plane
  mem : Sparse Plane
  flips : List Flip
  /-- Words in the pipeline that reach a column with an error: ISN, column, uncorrectable (R132, R134). -/
  wordErrs : List (BitVec 16 × Nat × Bool)
  /-- ISN each column expects next, plus one; 0 before the first word (R133). -/
  expect : Sparse Nat
  side : List Side
  /-- Completed side reads, for the command that asked: tile, address, data. -/
  sideDone : List Side
  /-- Failed physical tile rows in order of failure (R91, R98). -/
  failed : List Nat
  /-- Physical tiles powered, and those still zeroing (R36). -/
  power : BitVec 272
  zeroing : BitVec 272
  /-- Physical tiles that have lost power-good and whose row is still in service (R697). -/
  lost : BitVec 272
  deriving DecidableEq, Repr

/-- Reduction results under way, oldest first, each with the issue cycle of its word (R105). -/
structure Reductions where
  /-- Issue cycle, secure, global OR. -/
  gor : List (Nat × Bool × Bool)
  /-- Issue cycle, group, global OR. -/
  deliver : List (Nat × Nat × Bool)
  /-- Issue cycle, map. -/
  region : List (Nat × BitVec 256)
  /-- Issue cycle, secure, count. -/
  tally : List (Nat × Bool × Nat)
  /-- SEQ_TALLY as held, and the world of its cycle (R112, R114). -/
  count : BitVec 21
  countSecure : Bool
  deriving DecidableEq, Repr

/-- The beat counter and the TSTREAM side of the always-on domain (R379 to R384, R477). -/
structure Timing where
  /-- Beat count and epoch of the beat in progress (R381). -/
  beat : BitVec 40
  epoch : BitVec 8
  /-- BEATCLK edges arrive (R384). -/
  present : Bool
  /-- Whether a beat has begun since power-on. -/
  begun : Bool
  /-- BEATCLK was last measured out of range (R384). -/
  stray : Bool
  /-- Postmark of the beat in progress and of the 256 before it, newest first (R477). -/
  marks : List (BitVec 48)
  deriving DecidableEq, Repr

/-- The coding state of one direction of a serial lane (R357): running disparity, positive when true, and scrambler register. -/
structure Coder where
  rd : Bool
  scr : BitVec 58
  deriving DecidableEq, Repr

/-- The output formatter and the pins it drives (12). -/
structure Formatter where
  gor : BitVec 4
  gdlv : BitVec 4
  tcapw : Bool
  rcapw : Bool
  region : BitVec 256
  veto : Bool
  /-- Level each accept pin's mode gives, and whether a delivery has set it in this run (R489). -/
  accHigh : BitVec 4
  accSeen : BitVec 4
  aliveCnt : BitVec 8
  alive : Bool
  /-- Array cycles left of each pin's pulse (R488). -/
  pulse : Sparse Nat
  /-- The beat window that closes in the beat in progress has closed (R475). -/
  closed : Bool
  /-- The trigger word last built, the symbols of the frame each lane last began, and each lane's coding state (R484). -/
  word : BitVec 512
  frames : Sparse (List (BitVec 66))
  coders : Sparse Coder
  /-- BUSY causes other than MODE, SW, VETO: deadtime, fault recovery, thermal trip. -/
  deadtime : Bool
  fault : Bool
  thermal : Bool
  deriving DecidableEq, Repr

/-- A string of symbols to send: code groups by their characters, blocks by header and payload, or raw words. -/
inductive Piece where
  | chars (cs : List (Bool × Nat))
  | block (head : BitVec 2) (payload : BitVec 64)
  | words (ws : List (BitVec 32))
  deriving DecidableEq, Repr

/-- One front-end lane's link state beyond its registers (R357 to R377). -/
structure Lane where
  rx : Coder
  tx : Coder
  /-- Symbols still to go out, one a piece, the next first: the rest of an ordered set, and data that waits for it (R372). -/
  out : List Piece
  /-- Commas, sync headers or alignment words counted towards symbol alignment (R366). -/
  good : Nat
  /-- Raw words since the last expected position of an alignment word (R366, R367). -/
  since : Nat
  /-- Symbols sent since the start of the last ALIVE or HELLO, or since entry to UP or HELLO (R372, R369). -/
  symbols : Nat
  /-- Transmit-ready towards Tweed: low for the word cycles of an ordered set (R372). -/
  ready : Bool
  /-- Symbols last sent, as on the line (R358). -/
  line : BitVec 66
  hello : Option (BitVec 24)
  settled : Option Nat
  acks : Nat
  aliveSeq : BitVec 8
  beatRef : Bool
  /-- Invalid symbols among the last received, newest first (R367), and expected alignment words missing in succession. -/
  recent : List Bool
  missed : Nat
  /-- Word last handed to Tweed: data, valid, postmark (R382). -/
  word : Option (BitVec 64 × Bool × BitVec 48)
  /-- Ordered set last transmitted. -/
  sent : BitVec 32
  deriving DecidableEq, Repr

/-- An entry of a tile ingress placement table (R394). -/
structure Entry where
  postcode : Nat
  pe : Nat
  off : Nat
  width : Nat
  deriving DecidableEq, Repr

/-- A payload in a tile's queue (R398). -/
structure Payload where
  pe : Nat
  off : Nat
  width : Nat
  value : BitVec 16
  pmref : BitVec 16
  /-- Ingest port that took it, its slot, and the beat and array cycle in which it was taken (R399). -/
  port : Nat
  slot : Nat
  at_ : BitVec 48 × Nat
  deriving DecidableEq, Repr

/-- The distribution network (R393 to R399). -/
structure Distribution where
  /-- Payload bits that each tile's ingress port has written in the beat and array cycle last named (R70). -/
  wrote : Sparse (Nat × BitVec 48 × Nat)
  /-- Directory: block number to logical tile + 1. -/
  dir : Sparse Nat
  tables : Sparse (List Entry)
  queues : Sparse (List Payload)
  /-- Records waiting at their ingest ports. -/
  waiting : List (Nat × BitVec 256)
  deriving DecidableEq, Repr

/-- A Tweed load under way (R425 to R429). -/
structure TweedLoad where
  image : List Byte
  next : Nat
  /-- All nine steps have passed and release is due (R427). -/
  passed : Bool
  /-- A rollback reload (R429), and the status that caused it. -/
  reload : Bool
  cause : Status
  /-- The region that a MULTIDRIVE frame keeps BLANK through the reload (R428). -/
  barred : Option Nat
  deriving DecidableEq, Repr

/-- A hard 24 × 24 multiplier (R409): the product in its first pipeline stage, with whether the second adds it to the accumulator; the
accumulator; and what the second stage puts out. -/
structure Multiplier where
  first : BitVec 48
  add : Bool
  acc : BitVec 48
  out : BitVec 48
  deriving DecidableEq, Repr

/-- The Tweed fabric (10). -/
structure Tweed where
  /-- User flip-flops of each region (R402, R422). -/
  flops : Sparse (BitVec 40960)
  /-- Contents of the memory blocks: 128·region + block; and what each port of a RAM last read: 2·(128·region + block) + port (R410). -/
  ram : Sparse (BitVec 36864)
  ramOut : Sparse (BitVec 72)
  /-- Multipliers: 32·region + m. -/
  mults : Sparse Multiplier
  /-- The pins that a design drives, with their levels: TWIO by number, and the fallback pins (R402, R442). -/
  twio : Sparse (Bool × Bool)
  fbio : Sparse (Bool × Bool)
  /-- Boundary signals of each region as other regions and hard blocks see them (R419, R422). -/
  boundary : Sparse (BitVec 2048)
  /-- Regions that the golden image configures, and the words per lane that its monitors have counted (R439). -/
  golden : BitVec 16
  monitors : Sparse Nat
  /-- Configuration data of each frame: 3,584·region + index. -/
  config : Sparse (BitVec 4096)
  /-- Queue contents, oldest first: 1,024·region + Q. -/
  queues : Sparse (List (BitVec 72))
  /-- What each queue's pop port last returned (R415): data and valid. -/
  popped : Sparse (BitVec 72 × Bool)
  /-- Digest of the image that last configured each region (R667), and its FBPINS flag. -/
  digest : Sparse (BitVec 512)
  fbpins : Bool
  /-- Regions switched off from ACTIVE (R687). -/
  retained : BitVec 16
  load : Option TweedLoad
  /-- The retained previous image (R429). -/
  previous : Option (List Byte)
  deriving DecidableEq, Repr

/-- A placement unit: region tag, origin and extent (R474). -/
structure PUnit where
  tag : Nat
  x0 : Nat
  y0 : Nat
  w : Nat
  h : Nat
  deriving DecidableEq, Repr

/-- A stencil as placed: number, hop budget and offsets (R452). -/
structure PStencil where
  k : Nat
  offs : List (Int × Int)
  sel : List Nat
  deriving DecidableEq, Repr

/-- A placement (R457). -/
structure Placement where
  w0 : Word
  w1 : Word
  rows : Nat
  orient : Nat
  sx : Nat
  sy : Nat
  units : List PUnit
  dir : Sparse Nat
  tables : Sparse (List Entry)
  stencils : List PStencil
  kept : List Nat
  /-- Membership and selvage planes: 4,096·tile + bit address. -/
  masks : Sparse (BitVec 4096)
  gated : BitVec 256
  used : Nat
  load : Nat
  /-- The map and the two sections it was computed from (R467), and the measurement of R469. -/
  map : List Byte
  stencilSec : List Byte
  keptSec : List Byte
  measure : BitVec 512
  deriving DecidableEq, Repr

/-- A repair descriptor (R471): the assignment that follows a failure of physical row `row`, as the physical row of each logical row,
and the logical tiles that move, each with the DRAM addresses of its ingress table and of its tile image. -/
structure RepairDescriptor where
  row : Nat
  assign : List Nat
  moved : List (Nat × Nat × Nat)
  deriving DecidableEq, Repr

/-- What one DRAM stack holds for the sorting office (R457, R462): the directory, the tables and the tile images by logical tile
(4,096·tile + bit address, R461), and the repair descriptors. -/
structure SortCopy where
  dir : Sparse Nat
  tables : Sparse (List Entry)
  images : Sparse (BitVec 4096)
  descriptors : List RepairDescriptor
  deriving DecidableEq, Repr

/-- No object is held. -/
def SortCopy.none : SortCopy := { dir := [], tables := [], images := [], descriptors := [] }

/-- The placement report but for its lookups (R474). -/
structure PlacementReport where
  packed : Bool
  orient : Nat
  sx : Nat
  sy : Nat
  units : List PUnit
  /-- Tiles holding channels, tiles powered, largest table entry count, largest declared load. -/
  tiles : Nat × Nat × Nat × Nat
  /-- Each offset: stencil, (dx, dy), hop count, PEs whose selvage bit is 1. -/
  offsets : List (Nat × (Int × Int) × Nat × Nat)
  measure : BitVec 512
  deriving DecidableEq, Repr

/-- The sorting office (11). -/
structure Sorting where
  effect : Option Placement
  staged : Option Placement
  /-- Result computed by a PLACE under way: the placement, or reason, item and first postcode (R470). -/
  result : Option (Option Placement × Nat × Nat × Nat)
  /-- The copies in stacks 0 and 2 (R462, R578; DESIGN CHOICE, log entry 106). -/
  lower : SortCopy
  upper : SortCopy
  /-- The placement report in DRAM (R457, R474). -/
  report : Option PlacementReport
  /-- The first postcode involved in a failed PLACE, which its report names (R470). -/
  failPostcode : Word
  lastW0 : Word
  lastW1 : Word
  deriving DecidableEq, Repr

/-- A budget (R519). -/
structure Budget where
  allow : Nat
  window : Nat
  cap : Nat
  ceil : Nat
  policy : Nat
  secure : Bool
  deriving DecidableEq, Repr

/-- The franking meter's own state (13). Energies are in units of 10 nJ. -/
structure Franking where
  budget : Option Budget
  next : Option Budget
  /-- A secure session has granted a budget (R520). -/
  secured : Bool
  total : Nat
  run : Nat
  window : Nat
  charged : Nat
  rails : Sparse Nat
  sections : Sparse Nat
  /-- Predicted energy of each section in the run: sums of R517's power over its samples. -/
  forecast : Sparse Nat
  /-- Index of the energy section last entered in the run (R507). -/
  section_ : Option Nat
  skipped : Nat
  /-- The act of R526 has been made in this window. -/
  acted : Bool
  trips : Nat
  peakDraw : Nat
  /-- One-hour bins of seconds at BOOST, newest first; samples into the second and hour; what the store holds. -/
  bins : List Nat
  boostSamples : Nat
  hourSamples : Nat
  saved : List Nat
  tjSum : Int
  tjCount : Nat
  hours : Nat
  spill : Bool
  /-- ARG of a SPILL_WARNING whose spill has not begun. -/
  spillDue : Bool
  warnAt : Option Nat
  periods : Nat
  periodSum : Nat
  samples : Nat
  /-- Samples into the current window. -/
  windowSamples : Nat
  /-- Power of the samples of the last 60 s, newest first (R533). -/
  history : List Nat
  /-- Allowance left above 300 W, in mW·µs, and whether it is being drawn or has run out. -/
  peak : Nat
  peakOut : Bool
  below300 : Nat
  /-- A BOOST wear record: VDD_ARRAY in mV, ramp awaiting AVSBus status, cap after a missing status (R721). -/
  vdd : Nat
  ramp : Option Nat
  held : Option Nat
  /-- Trip waiting for its clock-point change, samples at or below 95 °C, limiter steps. -/
  tripPending : Bool
  coolSamples : Nat
  steps : Nat
  beatHz : Nat
  deriving DecidableEq, Repr

/-- A packet in the network (R545): the router it waits at or next reaches. -/
structure Flight where
  packet : Packet
  at_ : Nat
  /-- ROUTE codes used so far. -/
  hops : Nat
  /-- The upper buffer set of its virtual channel, with the dimension whose wrap link it has crossed: true for X (R548). -/
  upper : Option Bool
  /-- A bounced head on its way to the dead-letter office, with its status (R560). -/
  back : Option Status
  /-- A link has spoiled a data flit (R548). -/
  bad : Bool
  deriving DecidableEq, Repr

/-- A probe (R555). -/
structure Probe where
  mode : Nat
  router : Nat
  port : Nat
  cls : Nat
  kinds : Nat
  src : Nat
  anySrc : Bool
  dst : Nat
  anyDst : Bool
  bank : Nat
  prev : Nat
  packets : Nat
  flits : Nat
  wpos : Nat
  loss : Nat
  deriving DecidableEq, Repr

/-- The network on chip (14). -/
structure Noc where
  flights : List Flight
  /-- Packets that wait at their NI for its regulator, oldest first, each with the route entry it names: key 4·NI + class (R554). -/
  queued : Sparse (List (Nat × Packet))
  /-- Packets that have passed each NI's eject port and wait to be acted on, each with whether a data flit is spoiled (R548). -/
  arrived : Sparse (List (Packet × Bool))
  tokens : Sparse Nat
  /-- Heads at the dead-letter office with their status. -/
  office : List (BitVec 256 × Status)
  quiesced : List (Nat × BitVec 8)
  /-- Disabled output ports of each router. -/
  disabled : Sparse (BitVec 8)
  /-- Flits that a class may still send at a router output, or has sent ahead of its share: key 4·(8·router + port) + class (R552). -/
  credits : Sparse Int
  probes : Sparse Probe
  /-- The NoC cycle count, as of the head that a probe last recorded (R556). -/
  cycles : BitVec 48
  /-- Firmware has written the route tables and waits for an empty network to leave tree mode (R559). -/
  leaving : Bool
  /-- Last response, message or receipt each NI took. -/
  received : Sparse (BitVec 256)
  deriving DecidableEq, Repr

/-- DRAM, pigeonhole banks and mailbags (15). -/
structure Memories where
  dram : Sparse Byte
  dramBad : List Nat
  dramSingle : List Nat
  /-- Containers: 262,144·bank + container. -/
  ph : Sparse Cont
  phBad : List Nat
  phSingle : List Nat
  handover : List (Nat × Nat × Bool)
  /-- Egress records drained by each column and not yet in a CAPTURE packet, each with the physical row of its tile (R84). -/
  egress : Sparse (List (Nat × BitVec 128))
  /-- Mailbags whose fill has been reported and not fallen below one half (R596). -/
  above : BitVec 16
  deriving DecidableEq, Repr

/-- Where a request came from: a port's request ring, or a fallback serial port (R440). -/
inductive Via where
  | ring (p : Port)
  | spi
  | uart
  deriving DecidableEq, Repr

/-- A command under way whose reply is still due; a port reset mutes it (R606). -/
structure Job where
  op : Nat
  via : Via
  w0 : Word
  w1 : Word
  sess : Nat
  /-- Target block (R619). -/
  block : Nat
  args : List Nat
  mute : Bool
  deriving DecidableEq, Repr

/-- One host port (16). -/
structure HostPort where
  link : Bool
  /-- The port's PCIe PLL is locked to its reference (R676). -/
  pll : Bool
  /-- Open sessions other than 0, with `true` for secure. -/
  sessions : List (Nat × Bool)
  nonce : Option (BitVec 256)
  jobs : List Job
  /-- Replies waiting for room in the ring (R620). -/
  replies : List (List Word)
  evSeq : Word
  /-- MSI-X vectors sent, newest first. -/
  vectors : List Nat
  /-- MSI-X table by dword and pending bit array (R603, R611). -/
  msix : Sparse Cont
  pba : BitVec 64
  /-- Replies sent on the fallback ports. -/
  fallback : List (List Word)
  /-- A BAR read that the port completed last: words, poisoned, unsupported. -/
  completion : List Cont
  poisoned : Bool
  unsupported : Bool
  /-- The port's configuration space: what R599 lets a host set, and the AER record of an Unsupported Request (R606). -/
  config : PortConfig
  aer : Bool
  deriving DecidableEq, Repr

/-- What follows the reply of a RESET of level 0 or 1 (R637), or of a LIFECYCLE with its target and its bundle (R655). -/
inductive DueReset where
  | core
  | system
  | life (target : Nat) (bundle : List Byte)
  deriving DecidableEq, Repr

/-- A claim (R640): class, index, holder; with no port the holder is firmware. -/
structure Claim where
  cls : Nat
  idx : Nat
  port : Option Port
  sess : Nat
  deriving DecidableEq, Repr

/-- OTP, counter store, flash certificates (R654 to R666). -/
structure Otp where
  log : List Nat
  ident : BitVec 128
  hostKeys : Sparse (BitVec 256)
  tweedKeys : Sparse (BitVec 256)
  revokedHost : List Nat
  /-- Service keys that OTP marks revoked, 0 for index 8 (R652). -/
  revokedService : List Nat
  revokedTweed : List Nat
  revokedPatch : List Nat
  revokedFw : List Nat
  minFw : Nat
  minPatch : Nat
  twsig : Bool
  dbgUnlock : Bool
  pendingWipe : List Nat
  tampers : BitVec 16
  /-- Bytes of the fallback flash that differ from those it was made with, as differences (R439). -/
  flash : Sparse Byte
  deriving DecidableEq, Repr

/-- A run as attestation reports it (R668, R669). -/
structure RunRecord where
  number : Word
  first : BitVec 48
  last : BitVec 48
  open_ : Bool
  tl : Bool
  degraded : Bool
  mTweed : BitVec 512
  mPlace : BitVec 512
  mProg : BitVec 512
  mParam : BitVec 512
  mFw : BitVec 512
  mPatch : BitVec 512
  mWorld : BitVec 512
  deriving DecidableEq, Repr

/-- A LOAD_PARAMS whose side writes are under way (R635): its request, the count of planes, what its finished parts report,
and the logical tiles still to complete with their first address and planes. -/
structure ParamJob where
  job : Job
  count : Nat
  done : List (Nat × Status)
  waiting : List (Nat × Nat × List (BitVec 4096))
  deriving DecidableEq, Repr

/-- A fault report (R697). -/
inductive Fault1 where
  | tile (row col : Nat)
  | sequencer (cause : Nat) (memory : Bool)
  deriving DecidableEq, Repr

/-- What the reset controller and the boot ROM are doing (R694, R695). -/
inductive Boot where
  /-- The start-up sequence has not run since the reset. -/
  | reset
  /-- Firmware cannot run: the NoC domain stays in reset (R677). -/
  | held (e : StartUp)
  /-- Step 6 waits for a host firmware image. -/
  | host (e : StartUp)
  /-- The golden firmware failed too (R664). -/
  | failed
  /-- Start-up is complete. -/
  | done
  deriving DecidableEq, Repr

/-- A write that reaches the module through a port's BAR (R603, R607 to R610, R613, R695). -/
inductive BarWrite where
  | register (blk off : Nat) (w : WriteData)
  | request (v : Cont)
  | head (event : Bool) (v : Cont)
  | toSequencer (v : Cont)
  | toPeer (v : Cont)
  | istat (w : WriteData)
  | semaphore (n : Nat) (v : Word) (tie : Option Word)
  | memory (off : Nat) (data : List Byte)
  | bank (own : Bool) (n : Nat) (v : Cont)
  | diag (off : Nat) (w : WriteData)
  | bootLength (v : Word)
  deriving DecidableEq, Repr

/-- The VQ24 context of a service core (R157, R709): its registers, its memories and the cycles of its clock. -/
structure Core where
  seq : Seq
  smem : SeqMem
  cycle : Nat
  deriving DecidableEq, Repr

/-- Modes, firmware journals and the system side (16 to 20). -/
structure System where
  mode : Mode
  /-- Transition under way: target, with the request to answer. -/
  transition : Option (Mode × Option Job)
  /-- A wake arrived while the device was entering SLEEP (R692). -/
  wakeDue : Bool
  /-- BAR writes held at the ports in SLEEP, oldest first (R692). -/
  posted : List (Port × BarWrite)
  boot : Boot
  /-- CFGSTRAP has been measured since the power-on reset (R678). -/
  strapped : Bool
  shutdown : Bool
  pa : HostPort
  pb : HostPort
  claims : List Claim
  sems : Sparse (Nat × Nat)
  tieWinner : Option Port
  /-- Staged images by LOAD_IMAGE kind, and firmware's two copies of the committed ones (R578). -/
  staged : Sparse (List Byte)
  committed : Sparse (List Byte)
  mirrored : Sparse (List Byte)
  entry : RunEntry
  /-- Accepted RUN_START, with its run number (R636). -/
  accepted : Option Word
  stopping : Option Job
  record : Option RunRecord
  mFw : BitVec 512
  fwSvn : Nat
  checkpoint : Option (BitVec 18 × Word × Bool × Bool)
  /-- A sequencer fault since the last CHKPT of the run (R702). -/
  faulted : Bool
  faults : List Fault1
  /-- A checkpoint restart waits for the first beat (R701). -/
  restart : Bool
  noPlacement : Bool
  params : Option ParamJob
  commit : Option Job
  clears : List (Nat × Option Job)
  wipe : Option Job
  coresUp : BitVec 4
  /-- Event records that the fallback UART has put out, newest first (R440). -/
  uart : List (List Word)
  /-- Contexts of service cores 0 to 3. -/
  cores : List Core
  runBy : List Nat
  takenOver : Bool
  /-- Domains powered, and held in reset (R677, R685). -/
  on : BitVec 357
  held : List Nat
  /-- Domains that are to come on and whose clock-good has not come (R677). -/
  noClock : List Nat
  /-- The reset in progress followed a thermal shutdown and lasts until the module has cooled (R536). -/
  hot : Bool
  /-- A RESET of level 0 or 1 or a LIFECYCLE that waits for its reply to be written (R637, R655), with its port. -/
  resetDue : Option (Port × DueReset)
  /-- SET_MODE commands that a fault has abandoned and that reply once the mode it leaves is reached (R691). -/
  abandoned : List Job
  jtag : BitVec 8
  jtagLock : Bool
  debug : Bool
  /-- The challenge that the debug port holds (R681). -/
  challenge : Option (BitVec 256)
  deriving DecidableEq, Repr

/-- The state of the module. -/
structure State where
  seq : Seq
  smem : SeqMem
  arr : ArrayUnit
  cv : Canvas
  red : Reductions
  tim : Timing
  out : Formatter
  lanes : Sparse Lane
  dn : Distribution
  tw : Tweed
  sof : Sorting
  frk : Franking
  noc : Noc
  mem : Memories
  otp : Otp
  sys : System
  /-- Array cycles issued since the last core reset (SEQ_CYCLO). -/
  cycle : Nat
  /-- The register file: key 0x100000·block + offset. -/
  regs : Sparse Word
  /-- The MODEL's counter of free values drawn (DESIGN CHOICE, log entry 4). -/
  free : Nat
  /-- The status last answered to a register access (DESIGN CHOICE, log entry 12). -/
  answer : Status
  pending : List Instr
  deriving DecidableEq, Repr

/-- Sequencer logic after a core reset (R672, R221, R279), its S-level registers at their reset values too. -/
def Seq.reset : Seq where
  pc := 0
  dRegs := []
  dDirty := 0
  aRegs := []
  acRegs := []
  acDirty := 0
  cr := 0
  fpcsr := 0
  rst := false
  tl := false
  locked := false
  ie := false
  priv := true
  world := true
  rptc := 0
  cycHi := 0
  pmHi := 0
  rstart := 0
  frkst := 0x430000
  phwin := 0
  drwin := 0
  faddr := 0
  fstat := 0
  isecBase := 0x40000
  dsecBase := 0x40000
  gates := []
  stcnt := []
  sten := []
  wctl := 0x22
  spillBase := 0x3C000
  spillLimit := 0x40000
  spillPtr := 0x3C000
  top := 0
  res := 1
  frameWorlds := [true]
  spilled := []
  job := none
  ptrWrites := []
  ilvl := 16
  depth := 0
  tw := false
  tvbase := 0
  tvbaseS := 0
  hcause := 0
  ipend := 0
  imask := 0
  isec := 0
  gate := none
  wait := .none
  halted := false
  stopped := false
  freeAt := 0
  loaded := none
  dataAt := 0
  bphase := 0
  bprev := 0
  cycBase := 0
  fillErr := 0
  unit := 3

/-- The array unit and pipeline after a core reset; the patch stays with the caller. -/
def ArrayUnit.reset (p : Option Patch) : ArrayUnit where
  run := none
  susp := none
  suspDepth := 0
  inject := []
  check := none
  broken := none
  lastSafe := false
  isn := 0
  pipe := []
  patch := p
  patchBad := []

/-- The Canvas with every tile off: what R35 gives after power-on, with memory zero. -/
def Canvas.reset : Canvas where
  a := 0
  b := 0
  c := 0
  m := BitVec.allOnes numPE
  g := 0
  n := 0
  inbox := []
  stage := []
  written := []
  outbox := []
  egress := []
  pending := 0
  mark := []
  mem := []
  flips := []
  wordErrs := []
  expect := []
  side := []
  sideDone := []
  failed := []
  power := 0
  zeroing := 0
  lost := 0

/-- No reduction under way. -/
def Reductions.reset : Reductions where
  gor := []
  deliver := []
  region := []
  tally := []
  count := 0
  countSecure := false

/-- The formatter after a power-on or system reset (R494, R746). -/
def Formatter.reset : Formatter where
  gor := 0
  gdlv := 0
  tcapw := false
  rcapw := false
  region := 0
  veto := false
  accHigh := 0
  accSeen := 0
  aliveCnt := 0
  alive := false
  pulse := []
  closed := false
  word := 0
  frames := []
  coders := []
  deadtime := false
  fault := false
  thermal := false

/-- A lane with no partner. -/
def Lane.reset : Lane where
  rx := { rd := false, scr := 0 }
  tx := { rd := false, scr := 0 }
  out := []
  good := 0
  since := 0
  symbols := 0
  ready := false
  line := 0
  hello := none
  settled := none
  acks := 0
  aliveSeq := 0
  beatRef := false
  recent := []
  missed := 0
  word := none
  sent := 0

/-- The franking meter after a power-on reset (R522); `bins` is the wear record of the counter store. -/
def Franking.reset (bins : List Nat) : Franking where
  budget := none
  next := none
  secured := false
  total := 0
  run := 0
  window := 0
  charged := 0
  rails := []
  sections := []
  forecast := []
  section_ := none
  skipped := 0
  acted := false
  trips := 0
  peakDraw := 0
  bins := bins
  boostSamples := 0
  hourSamples := 0
  saved := bins
  tjSum := 0
  tjCount := 0
  hours := 0
  spill := false
  spillDue := false
  warnAt := none
  periods := 0
  periodSum := 0
  samples := 0
  windowSamples := 0
  history := []
  peak := 420000000000
  peakOut := false
  below300 := 0
  vdd := 750
  ramp := none
  held := none
  tripPending := false
  coolSamples := 0
  steps := 0
  beatHz := 40000000

/-- The configuration of a port after a reset, by the PCIe Base Specification that R606 names (PRESUMED, log entry 90): Max Payload Size 128,
Max Read Request Size 512, D0, ASPM off, function mask clear. -/
def PortConfig.reset : PortConfig := {}

/-- A host port after a port reset (R606, R628). -/
def HostPort.reset (up : Bool) : HostPort where
  link := up
  pll := up
  sessions := []
  nonce := none
  jobs := []
  replies := []
  evSeq := 0
  vectors := []
  msix := []
  pba := 0
  fallback := []
  completion := []
  poisoned := false
  unsupported := false
  config := PortConfig.reset
  aer := false

/-- The run-entry values before any COMMIT (DESIGN CHOICE, log entry 13). -/
def RunEntry.none : RunEntry where
  entry := 0
  epriv := false
  eworld := false
  tvbase := 0
  spBase := 0x3C000
  spLimit := 0x40000
  fpcsr := 0
  imask := 0
  wctl := 0x22

/-- A service core at its restart: the registers of a sequencer reset, its memories empty (DESIGN CHOICE, log entry 97). -/
def Core.reset : Core where
  seq := Seq.reset
  smem := { imem := [], dmem := [], imemBad := [], dmemBad := [] }
  cycle := 0

/-- The system side after a power-on reset, before start-up (R672, R694). -/
def System.reset : System where
  mode := .standby
  transition := none
  wakeDue := false
  posted := []
  boot := .reset
  strapped := false
  shutdown := false
  pa := HostPort.reset false
  pb := HostPort.reset false
  claims := []
  sems := []
  tieWinner := none
  staged := []
  committed := []
  mirrored := []
  entry := RunEntry.none
  accepted := none
  stopping := none
  record := none
  mFw := 0
  fwSvn := 0
  checkpoint := none
  faulted := false
  faults := []
  restart := false
  noPlacement := false
  params := none
  commit := none
  clears := []
  wipe := none
  coresUp := 0xF
  uart := []
  cores := List.replicate 4 Core.reset
  runBy := [0, 1, 2, 3]
  takenOver := false
  on := 0
  held := []
  noClock := []
  hot := false
  resetDue := none
  abandoned := []
  jtag := 0x02
  jtagLock := false
  debug := false
  challenge := none

/-- The machine right after a power-on reset, before its start-up sequence (DEDUCED, log entry 7). -/
def State.reset : State where
  seq := Seq.reset
  smem := { imem := [], dmem := [], imemBad := [], dmemBad := [] }
  arr := ArrayUnit.reset none
  cv := Canvas.reset
  red := Reductions.reset
  tim := { beat := 0, epoch := 0, present := true, begun := false, stray := false, marks := [] }
  out := Formatter.reset
  lanes := []
  dn := { wrote := [], dir := [], tables := [], queues := [], waiting := [] }
  tw := { flops := [], ram := [], ramOut := [], mults := [], twio := [], fbio := [], boundary := [], golden := 0, monitors := [], config := [], queues := [], popped := [], digest := [], fbpins := false, retained := 0, load := none,
          previous := none }
  sof := { effect := none, staged := none, result := none, lower := SortCopy.none, upper := SortCopy.none, report := none, failPostcode := 0, lastW0 := 0, lastW1 := 0 }
  frk := Franking.reset [60]
  noc := { flights := [], queued := [], arrived := [], tokens := [], office := [], quiesced := [], disabled := [], credits := [],
           probes := [], cycles := 0, leaving := false, received := [] }
  mem := { dram := [], dramBad := [], dramSingle := [], ph := [], phBad := [], phSingle := [], handover := [],
           egress := [], above := 0 }
  otp := { log := [], ident := 0, hostKeys := [], tweedKeys := [], revokedHost := [], revokedService := [],
           revokedTweed := [], revokedPatch := [], revokedFw := [], minFw := 0, minPatch := 0, twsig := false,
           dbgUnlock := false, pendingWipe := [], tampers := 0, flash := [] }
  sys := System.reset
  cycle := 0
  regs := []
  free := 0
  answer := .ok
  pending := []

end Sys2Proof.Machine
end

