-- ==== Sys2Proof/Machine/Regs.lean ====
section
/-! DEFINITION. The register file: one row of facts for every register of the target blocks (R627) and of BAR0 (R603),
with the field access codes of R9, the reset levels of R11 and the holder of each register's world (R747). -/

namespace Sys2Proof.Machine

/-- Whose world a register has (R747). -/
inductive Holder where
  | open_
  | secure
  | tile (t : Nat)
  | region (r : Nat)
  | quad (q : Nat)
  | bank (b : Nat)
  | ni (n : Nat)
  deriving DecidableEq, Repr

/-- A register's facts: reset value, bits a plain write sets, bits a 1 clears, whether a system reset restores it, and
its world. -/
structure RegSpec where
  reset : Nat
  rw : Nat
  w1c : Nat
  sys : Bool
  holder : Holder
  deriving DecidableEq, Repr

/-- The key of offset `off` of block `blk` in the register file. -/
def rkey (blk off : Nat) : Nat := blk * 0x100000 + off

/-- Block numbers of R627. -/
def bTCC : Nat := 0x010
def bCGM : Nat := 0x020
def bMCU : Nat := 0x021
def bSOF : Nat := 0x022
def bFRK : Nat := 0x023
def bOUT : Nat := 0x024
def bTIM : Nat := 0x025
def bDN : Nat := 0x026
def bTWC : Nat := 0x027
def bNOC : Nat := 0x028
def bDRM : Nat := 0x029
def bPH : Nat := 0x02A
def bMBG : Nat := 0x02B
def bLQ : Nat := 0x030
def bTWQ : Nat := 0x060
def bSEC : Nat := 0x070
def bRST : Nat := 0x080
def bCLK : Nat := 0x081
def bPWR : Nat := 0x082
/-- The model's own block numbers for the BAR0 areas of R603, by byte offset within the area: port A and port B mailbox
control, port A and port B doorbells. -/
def bMBX : Nat := 0x108
def bDBL : Nat := 0x110
/-- The agreed protocol versions of the fallback SPI target and UART, at offsets 0 and 1. -/
def bFBK : Nat := 0x118

/-- Whether R627 lists a block. -/
def blockListed (b : Nat) : Bool :=
  b == 0 || (0x010 ≤ b && b ≤ 0x02B) || (0x030 ≤ b && b ≤ 0x053) || (0x060 ≤ b && b ≤ 0x070)
    || (0x080 ≤ b && b ≤ 0x082)

def ro (reset : Nat) : Option RegSpec := some ⟨reset, 0, 0, true, .open_⟩
def roH (reset : Nat) (h : Holder) : Option RegSpec := some ⟨reset, 0, 0, true, h⟩
def rwS (reset mask : Nat) : Option RegSpec := some ⟨reset, mask, 0, true, .open_⟩
def rwH (reset mask : Nat) (h : Holder) : Option RegSpec := some ⟨reset, mask, 0, true, h⟩
def roP (reset : Nat) : Option RegSpec := some ⟨reset, 0, 0, false, .open_⟩

/-- Tile-column controller `c` (02, 04). -/
def tccSpec (c off : Nat) : Option RegSpec :=
  if off ≤ 0x010 then rwH 0 0xFFFFFF (.tile (16 * off + c))
  else if off = 0x020 then some ⟨0, 0, 0x1FFFF, true, .open_⟩
  else if off = 0x021 || off = 0x022 then ro 0
  else if off = 0x023 then rwS 0x1000 0xFFFFFF
  else if 0x040 ≤ off && off ≤ 0x050 then rwH 0 0xFFFFFF (.tile (16 * (off - 0x040) + c))
  else if 0x060 ≤ off && off ≤ 0x070 then rwH 0 0xFFFFFF (.tile (16 * (off - 0x060) + c))
  else if 0x080 ≤ off && off ≤ 0x090 then rwH 0 0xFFFFFF (.tile (16 * (off - 0x080) + c))
  else if off = 0x0A0 then rwS 0 0xFFFFFF
  else if off = 0x0A1 then some ⟨0, 0, 0xC00000, true, .open_⟩
  else if off = 0x0A2 then rwS 0 0xFFFFFF
  else none

/-- The output block (12). -/
def outSpec (off : Nat) : Option RegSpec :=
  if off = 0x000 then rwS 0 0xFFFFE0
  else if off = 0x001 then rwS 0x81 0x800000
  else if 0x004 ≤ off && off ≤ 0x007 then rwS 0x080001 0xF800FF
  else if 0x008 ≤ off && off ≤ 0x00B then rwS 0x002100 0xFFFF80
  else if 0x010 ≤ off && off ≤ 0x01F then rwS 0x200000 0xFC0000
  else if 0x020 ≤ off && off ≤ 0x02F then rwS 0 0xFFFFFF
  else none

/-- The distribution network, timing, Tweed controller and NoC blocks (09, 10, 14). -/
def midSpec (blk off : Nat) : Option RegSpec :=
  if blk = bTIM then
    if off = 0 then some ⟨0, 0xFF, 0, false, .open_⟩
    else if off = 1 then some ⟨0, 0, 0xE00000, false, .open_⟩
    else if off = 2 then some ⟨0, 0xFFFFFF, 0, false, .open_⟩
    else none
  else if blk = bDN then
    if off = 0 then rwS 0 0xFFFF
    else if 0x010 ≤ off && off ≤ 0x015 then rwS 0 0xFFFFFF
    else if 0x020 ≤ off && off ≤ 0x03F then rwS 0 0xFFFFFF
    else none
  else if blk = bTWC then
    if off < 0x010 then ro 1
    else if off = 0x010 || off = 0x011 then ro 0
    else if off = 0x020 then rwH 0 0x800001 .secure
    else none
  else if blk = bNOC then
    if off = 0 then ro 1
    else if off = 0x010 || off = 0x011 then rwS 0 0xFFFFFF
    else if off = 0x012 then ro 0
    else if 0x100 ≤ off && off < 0x100 + 111 then rwH 0xC00000 0xC00000 (.ni (off - 0x100))
    else if 0x400 ≤ off && off < 0x400 + 444 then rwH 0x0003FF 0xFF03FF (.ni ((off - 0x400) / 4))
    else if 0x10000 ≤ off && off < 0x10000 + 256 * 111 then roH 0 (.ni ((off - 0x10000) / 256))
    else none
  else none

/-- The memory blocks (15). -/
def memSpec (blk off : Nat) : Option RegSpec :=
  if blk = bDRM then
    if off = 0 then rwH 24 0xFF .secure
    else if off = 1 then ro 0
    else if 0x010 ≤ off && off ≤ 0x017 then rwS 0 0xFFFFFF
    else if off = 0x018 then ro 0
    else if off = 0x019 then some ⟨0, 0, 0x800000, true, .open_⟩
    else none
  else if blk = bPH then
    if off = 0x040 || off = 0x041 then rwS 0 0xFFFFFF
    else if off = 0x042 then ro 0
    else if 0x100 ≤ off && off ≤ 0x13F then
      let b := off - 0x100
      rwH ((if b = 0 then 1 else if b = 1 then 2 else 0) + (if 56 ≤ b then 0x800000 else 0)) 0x2000FF (.bank b)
    else none
  else if blk = bMBG then
    if off < 0x010 then rwS 0 0x3FFF
    else if off < 0x020 then rwS 0 0xFCFFFF
    else if off < 0x030 then ro 0
    else if off < 0x050 then rwS 0 0xFFFFFF
    else none
  else none

/-- The security, reset, clock and power blocks (17, 18). -/
def secSpec (blk off : Nat) : Option RegSpec :=
  if blk = bSEC then
    if off = 0 then rwS 0 0x800000
    else if 0x010 ≤ off && off ≤ 0x019 then rwS 0 0xFFFFFF
    else if off = 0x01A then rwS 0 0x00FFFF
    else if off = 0x020 then rwS 0 0xFFFFFC
    else if off = 0x021 then rwS 0 0xFFFFFF
    else if off = 0x022 then rwS 0 0x00FFFF
    else if off = 0x030 then rwS 0 0x00FFFF
    else if off = 0x031 then rwS 0 0xFFFFFF
    else if off = 0x032 then rwS 0 0x000FFF
    else if 0x040 ≤ off && off ≤ 0x05F then if off % 2 = 0 then rwS 0 0xC03FFF else rwS 0 0x003FFF
    else if off = 0x060 then some ⟨0, 0, 0xE00000, false, .open_⟩
    else if off = 0x070 then roP 0
    else if 0x10000 ≤ off && off < 0x20000 then roP 0
    else none
  else if blk = bRST then
    if off = 0 then some ⟨0, 0, 0x1FFF, false, .open_⟩
    else if off = 1 then roP 0
    else if off = 2 then some ⟨0, 0, 0x800000, false, .open_⟩
    else if off = 3 then ro 0
    else none
  else if blk = bCLK then if off = 0 then ro 0 else none
  else if blk = bPWR then if off < 15 then ro 0 else none
  else none

/-- The BAR0 registers of one port (16), by byte offset. -/
def barSpec (blk off : Nat) : Option RegSpec :=
  if blk = bMBX || blk = bMBX + 1 then
    if off = 0x000 then ro 1
    else if off < 0x01C then ro 0
    else if off = 0x01C then rwS 0 0xFFFFFF
    else if off < 0x034 then some ⟨0, 0, 0xFFFFFF, true, .open_⟩
    else if off = 0x034 then some ⟨0, 0, 0x0000FF, true, .open_⟩
    else if off = 0x040 then rwS 0 0x3F
    else if off = 0x044 then rwS 0 0xFF
    else if off = 0x048 then rwS 0 0xFFF
    else if off = 0x04C || off = 0x050 then ro 0
    else none
  else if blk = bDBL || blk = bDBL + 1 then
    if off ≤ 0x010 then ro 0
    else if off = 0x020 then some ⟨0, 0, 0xFF, true, .open_⟩
    else if off = 0x024 then rwS 0 0xFF
    else if off = 0x028 then rwS 0x0C2040 0xFFFFFF
    else if off = 0x02C then rwS 0x1C6144 0xFFFFFF
    else none
  else none

/-- The facts of the register at an offset of a block; none where the spec puts no register. -/
def regSpec (blk off : Nat) : Option RegSpec :=
  if 0x010 ≤ blk && blk ≤ 0x01F then tccSpec (blk - 0x010) off
  else if blk = bCGM then if off = 0 then ro 0x3FF810 else if 0x010 ≤ off && off ≤ 0x01F then ro (0x20 + (off - 0x010))
    else none
  else if blk = bMCU then if off < 3 then ro 0 else none
  else if blk = bSOF then if off < 3 then ro 0 else none
  else if blk = bFRK then
    if off = 0 then ro 0x5C0000 else if off = 4 || off = 5 || off = 8 || off = 9 then roP 0
    else if off = 0x00A then ro 4000 else if off < 0x00A then ro 0 else none
  else if blk = bOUT then outSpec off
  else if 0x025 ≤ blk && blk ≤ 0x028 then midSpec blk off
  else if 0x029 ≤ blk && blk ≤ 0x02B then memSpec blk off
  else if 0x030 ≤ blk && blk ≤ 0x053 then
    let h := Holder.quad (blk - 0x030)
    if off = 0 then rwH 0x002100 0xFFFF80 h
    else if 4 ≤ off && off ≤ 7 then rwH 0x280000 0xFF0000 h
    else if 8 ≤ off && off ≤ 0x00B then some ⟨0, 0, 0x800000, true, h⟩
    else if 0x00C ≤ off && off ≤ 0x00F then roH 0 h
    else if 0x010 ≤ off && off ≤ 0x013 then rwH 0 0xFFFFFF h
    else none
  else if 0x060 ≤ blk && blk ≤ 0x06F then
    let h := Holder.region (blk - 0x060)
    if off < 0x1000 then
      if off % 4 = 0 then rwH 0 0xFFFFFF h
      else if off % 4 = 1 then rwH 0 0x7FF h
      else if off % 4 = 2 then roH 0x400000 h
      else rwH 0 0xFFFFFF h
    else if off < 0x1080 then roH 2 h
    else none
  else if blk = bFBK then if off < 2 then ro 1 else none
  else if blk = bSEC || blk = bRST || blk = bCLK || blk = bPWR then secSpec blk off
  else barSpec blk off

/-- The reset value of a key of the register file. -/
def resetOf (k : Nat) : Word :=
  match regSpec (k / 0x100000) (k % 0x100000) with
  | some r => BitVec.ofNat 24 r.reset
  | none => 0

/-- The stored value of a register. -/
def State.reg (s : State) (blk off : Nat) : Word := sget (resetOf (rkey blk off)) s.regs (rkey blk off)

/-- `s` with a register's stored value replaced. -/
def State.setReg (s : State) (blk off : Nat) (v : Word) : State :=
  { s with regs := sput (resetOf (rkey blk off)) s.regs (rkey blk off) v }

/-- A field of a register, as a number. -/
def State.rfld (s : State) (blk off lo len : Nat) : Nat := fld (s.reg blk off) lo len

/-- `s` with a field of a register replaced. -/
def State.setRfld (s : State) (blk off lo len v : Nat) : State := s.setReg blk off (setFld (s.reg blk off) lo len v)

/-- R82, R400: adds `k` events to a saturating counter register. -/
def State.count (s : State) (blk off k : Nat) : State := s.setReg blk off (satAdd (s.reg blk off) k)

/-- A plain write under the access codes of R9: RW bits take the value, W1C bits written 1 clear, others keep. -/
def State.regApply (s : State) (blk off : Nat) (v : Word) : State :=
  match regSpec blk off with
  | none => s
  | some r =>
    let rw := BitVec.ofNat 24 r.rw
    let wc := BitVec.ofNat 24 r.w1c
    s.setReg blk off ((s.reg blk off &&& ~~~rw &&& ~~~(wc &&& v)) ||| (v &&& rw))

/-- R11: the register file after a system reset keeps the P-level registers. -/
def systemRegs (m : Sparse Word) : Sparse Word :=
  m.filter (fun e =>
    match regSpec (e.1 / 0x100000) (e.1 % 0x100000) with
    | some r => !r.sys
    | none => false)

/-- The model's block number of a port's mailbox-control area. -/
def mbx (p : Port) : Nat := match p with | .a => bMBX | .b => bMBX + 1
/-- The model's block number of a port's doorbell area. -/
def dbl (p : Port) : Nat := match p with | .a => bDBL | .b => bDBL + 1

end Sys2Proof.Machine
end

