-- ==== Sys2Proof/Machine/Ops.lean ====
section
/-! DEFINITION. The operations every family shares: free values, geometry and worlds (03, 17), interrupt lines and host
causes (06, 16), the event ring, fault reports, DRAM bytes and pigeonhole containers. -/

namespace Sys2Proof.Machine

/-! ### Free values -/

/-- Draws one free value of `w` bits and hands it to `f` with the counter advanced (DESIGN CHOICE, log entry 4). -/
def State.draw {α : Type} (s : State) (w : Nat) (f : BitVec w → State → α) : α :=
  f (Config.free s.free w) { s with free := s.free + 1 }

/-- The free value of `w` bits that the next draw gives. -/
def State.freeBits (s : State) (w : Nat) : BitVec w := Config.free s.free w

/-- `s` after a draw. -/
def State.drawn (s : State) : State := { s with free := s.free + 1 }

/-! ### Block setters -/

def State.mapSeq (s : State) (f : Seq → Seq) : State := { s with seq := f s.seq }
def State.mapArr (s : State) (f : ArrayUnit → ArrayUnit) : State := { s with arr := f s.arr }
def State.mapCv (s : State) (f : Canvas → Canvas) : State := { s with cv := f s.cv }
def State.mapRed (s : State) (f : Reductions → Reductions) : State := { s with red := f s.red }
def State.mapOut (s : State) (f : Formatter → Formatter) : State := { s with out := f s.out }
def State.mapFrk (s : State) (f : Franking → Franking) : State := { s with frk := f s.frk }
def State.mapMem (s : State) (f : Memories → Memories) : State := { s with mem := f s.mem }
def State.mapNoc (s : State) (f : Noc → Noc) : State := { s with noc := f s.noc }
def State.mapTw (s : State) (f : Tweed → Tweed) : State := { s with tw := f s.tw }
def State.mapSys (s : State) (f : System → System) : State := { s with sys := f s.sys }
def State.say (s : State) (a : Status) : State := { s with answer := a }

/-! ### Geometry (R85 to R92) -/

/-- In-service physical rows, ascending. -/
def inService (failed : List Nat) : List Nat := (List.range 17).filter (fun p => !failed.contains p)

/-- Logical tile rows in service (R91). -/
def lrows (failed : List Nat) : Nat :=
  if failed.length ≤ 1 then 16 else if failed.length = 2 then 15 else 0

/-- The logical height H in PEs. -/
def height (failed : List Nat) : Nat := 64 * lrows failed

/-- The physical row carrying logical row `ty` (R90). -/
def prowOf (failed : List Nat) (ty : Nat) : Option Nat :=
  if ty < lrows failed then (inService failed)[ty]? else none

/-- The logical row a physical row carries. -/
def lrowOf (failed : List Nat) (p : Nat) : Option Nat :=
  (List.range (lrows failed)).find? (fun ty => (inService failed)[ty]? = some p)

/-- CGM_STATUS.STATE (R91). -/
def geomState (failed : List Nat) : Nat := min 3 failed.length

/-- CGM_STATUS (R92, R100). -/
def cgmStatus (failed : List Nat) : Nat :=
  geomState failed * 2 ^ 22 + (failed[1]?).getD 31 * 2 ^ 17 + (failed[0]?).getD 31 * 2 ^ 12 + lrows failed * 2 ^ 7
    + (if failed.isEmpty then 16 else 31)

/-- The physical tile (16·prow + column) that carries a logical tile (16·ty + tx). -/
def physTile (failed : List Nat) (t : Nat) : Option Nat := (prowOf failed (t / 16)).map (fun p => 16 * p + t % 16)

/-- The logical tile a physical tile carries. -/
def logTile (failed : List Nat) (t : Nat) : Option Nat := (lrowOf failed (t / 16)).map (fun y => 16 * y + t % 16)

/-! ### Worlds (R642 to R648) -/

/-- Bit `j` of a bank of 24-bit world registers from offset `off`. -/
def State.worldBit (s : State) (off j : Nat) : Bool := (s.reg bSEC (off + j / 24)).getLsbD (j % 24)

/-- World of a logical tile. -/
def State.tileWorld (s : State) (t : Nat) : Bool := s.worldBit 0x010 t
/-- World of a physical tile (R648). -/
def State.physWorld (s : State) (t : Nat) : Bool :=
  match logTile s.cv.failed t with
  | some l => s.tileWorld l
  | none => false
def State.bankWorld (s : State) (b : Nat) : Bool := s.worldBit 0x020 b
def State.regionWorld (s : State) (r : Nat) : Bool := s.worldBit 0x030 r
def State.quadWorld (s : State) (q : Nat) : Bool := s.worldBit 0x031 q

/-- World of an NI (R643). -/
def State.niWorld (s : State) (n : Nat) : Bool :=
  if n < 48 then false
  else if n < 64 then s.regionWorld (n - 48)
  else if n < 100 then s.quadWorld (n - 64)
  else if n < 102 then false
  else if n = 106 then s.seq.world
  else true

/-- Whether a register's world is secure (R747). -/
def State.holderSecure (s : State) (h : Holder) : Bool :=
  match h with
  | .open_ => false
  | .secure => true
  | .tile t => s.physWorld t
  | .region r => s.regionWorld r
  | .quad q => s.quadWorld q
  | .bank b => s.bankWorld b
  | .ni n => s.niWorld n

/-! ### Interrupt lines, host causes and events -/

/-- R266: an event on a sequencer line makes it pending. -/
def State.raiseLine (s : State) (l : Nat) : State :=
  s.mapSeq (fun q => { q with ipend := q.ipend ||| BitVec.ofNat 16 (2 ^ l) })

def System.port (y : System) (p : Port) : HostPort := match p with | .a => y.pa | .b => y.pb
def System.setPort (y : System) (p : Port) (h : HostPort) : System :=
  match p with | .a => { y with pa := h } | .b => { y with pb := h }
def State.port (s : State) (p : Port) : HostPort := s.sys.port p
def State.mapPort (s : State) (p : Port) (f : HostPort → HostPort) : State :=
  s.mapSys (fun y => y.setPort p (f (y.port p)))

def portOther (p : Port) : Port := match p with | .a => .b | .b => .a
def portIdx (p : Port) : Nat := match p with | .a => 0 | .b => 1

/-- Sends the MSI-X vector a cause maps to, or marks it pending when its table entry or the function mask masks it (R611). -/
def State.sendVector (s : State) (p : Port) (c : Nat) : State :=
  let v := s.rfld (dbl p) (0x028 + 4 * (c / 4)) (6 * (c % 4)) 6
  let h := s.port p
  if h.config.functionMask || (sget 1 h.msix (4 * v + 3)).getLsbD 0 then s.mapPort p (fun h => { h with pba := setBit h.pba v true })
  else s.mapPort p (fun h => { h with vectors := v :: h.vectors })

/-- R610, R611: sets a cause of HOST_ISTAT, sending its vector when it goes from 0 to 1 and is enabled. -/
def State.cause (s : State) (p : Port) (c : Nat) : State :=
  let old := s.reg (dbl p) 0x020
  let t := s.setReg (dbl p) 0x020 (setBit old c true)
  if old.getLsbD c || !(s.reg (dbl p) 0x024).getLsbD c then t else t.sendVector p c

/-- The postmark of the beat in progress (R381). -/
def State.postmark (s : State) : BitVec 48 := s.tim.epoch ++ s.tim.beat

/-- A container of a pigeonhole bank. -/
def State.cont (s : State) (b c : Nat) : Cont := sget 0 s.mem.ph (262144 * b + c)
def State.setCont (s : State) (b c : Nat) (v : Cont) : State :=
  s.mapMem (fun m => { m with ph := sput 0 m.ph (262144 * b + c) v,
                              phBad := m.phBad.filter (· != 262144 * b + c),
                              phSingle := m.phSingle.filter (· != 262144 * b + c) })

/-- Writes words into consecutive containers (R6: bits [31:24] are 0). -/
def State.setConts (s : State) (b c : Nat) (ws : List Word) : State :=
  match ws with
  | [] => s
  | w :: r => (s.setCont b c (w.setWidth 32)).setConts b (c + 1) r

/-- Places of the reply and event rings: first container and size (R616). -/
def ringAt (ev : Bool) : Nat × Nat := if ev then (0x30000, 0x4000) else (0x20000, 0x10000)

/-- R617: where the next packet of `n` containers (a multiple of 4) goes in the reply or event ring of a port: the
position, and whether a pad packet precedes it; none without room. -/
def State.ringRoom (s : State) (p : Port) (ev : Bool) (n : Nat) : Option (Nat × Bool) :=
  let size := (ringAt ev).2
  let head := (s.reg (mbx p) (if ev then 0x014 else 0x00C)).toNat
  let tail := (s.reg (mbx p) (if ev then 0x018 else 0x010)).toNat
  let used := (tail + size - head) % size
  if tail + n ≤ size then if used + n < size then some (tail, false) else none
  else if used + (size - tail) + n < size then some (0, true) else none

/-- Writes a packet into the reply or event ring and advances the tail, which sets REPLY or EVENT (R610). -/
def State.ringPut (s : State) (p : Port) (ev : Bool) (at_ : Nat) (pad : Bool) (ws : List Word) : State :=
  let base := (ringAt ev).1
  let size := (ringAt ev).2
  let tail := (s.reg (mbx p) (if ev then 0x018 else 0x010)).toNat
  let s1 := if pad then s.setConts (portIdx p) (base + tail) [BitVec.ofNat 24 (size - tail - 4), 0, 0, 0] else s
  let s2 := s1.setConts (portIdx p) (base + at_) ws
  let s3 := s2.setReg (mbx p) (if ev then 0x018 else 0x010)
    (BitVec.ofNat 24 ((at_ + (ws.length + 3) / 4 * 4) % size))
  s3.cause p (if ev then 1 else 0)

/-- R621: sends one event record to a port, or counts it as lost. -/
def State.eventTo (s : State) (p : Port) (code item : Nat) (st : Status) (src sess : Nat) : State :=
  let seqn := (s.port p).evSeq
  let t := s.mapPort p (fun h => { h with evSeq := seqn + 1 })
  match t.ringRoom p true 4 with
  | some (at_, pad) =>
    t.ringPut p true at_ pad
      [BitVec.ofNat 24 (code * 65536 + st.code * 256 + item % 256), BitVec.ofNat 24 (sess * 4096 + src),
       (t.postmark).extractLsb' 0 24, seqn]
  | none => (t.count (mbx p) 0x01C 1).cause p 6

/-- R440, R442: the fallback UART puts the event out, while it holds its pins; the record is that of a ring, its sequence number 0 (DESIGN
CHOICE, log entry 105). -/
def State.uartEvent (s : State) (code item : Nat) (st : Status) (src sess : Nat) : State :=
  if s.rfld bTWC 15 0 3 = 3 then s
  else s.mapSys (fun y => { y with uart :=
    [BitVec.ofNat 24 (code * 65536 + st.code * 256 + item % 256), BitVec.ofNat 24 (sess * 4096 + src), (s.postmark).extractLsb' 0 24, 0] :: y.uart })

/-- R600: CFGSTRAP gives port A all the lanes; port B is not enumerable, and bank 1 stays unused. -/
def State.x16 (s : State) : Bool := (s.reg bRST 1).getLsbD 2

/-- R621, R622: a firmware event that concerns a session, or with 0 every session, goes to both ports, and out on the fallback UART. -/
def State.eventOf (s : State) (code item : Nat) (st : Status) (src sess : Nat) : State :=
  let t := s.eventTo .a code item st src sess
  (if s.x16 then t else t.eventTo .b code item st src sess).uartEvent code item st src sess
def State.event (s : State) (code item : Nat) (st : Status) (src : Nat) : State := s.eventOf code item st src 0

/-- An event of the fault manager: to both ports, and its notice to the program on line 0 (R266; DESIGN CHOICE, log entry 99). -/
def State.notice (s : State) (code item : Nat) (st : Status) (src : Nat) : State := (s.event code item st src).raiseLine 0

/-- Reports a fault to the fault manager (R698: in the order of the reports); a recovery is in progress from then on, and in RUN it
stops the stream and asserts BUSY with the FAULT cause (R145, R492, R697). -/
def State.report (s : State) (f : Fault1) : State :=
  (s.mapSys (fun y => { y with faults := y.faults ++ [f] })).mapOut (fun o => { o with
    fault := true, accSeen := if s.sys.mode == .run then 0 else o.accSeen })

/-- R622, R261: the SEQ_FAULT event and the report that goes with it. -/
def State.seqFault (s : State) (cause : Nat) (memory : Bool) : State :=
  (s.event 0x04 cause (if memory then .uncorrectable else .ok) 0).report (.sequencer cause memory)

/-- A service-core function runs: 0 the command interpreter, 1 the sorting office, 2 the meter, 3 the fault manager (R708). No firmware
runs while the NoC stays in reset (R677). -/
def State.functionUp (s : State) (f : Nat) : Bool := s.sys.coresUp.getLsbD ((s.sys.runBy[f]?).getD 0) && !s.sys.held.contains 353

/-- R537, R538: the current limiter or a thermal trip stretches the array clock. -/
def State.stretching (s : State) : Bool := s.frk.steps != 0 || s.frk.tripPending

/-! ### DRAM -/

def State.dbyte (s : State) (a : Nat) : Byte := sget 0 s.mem.dram a

/-- Reads `n` bytes. -/
def State.dread (s : State) (a n : Nat) : List Byte := (List.range n).map (fun i => s.dbyte (a + i))

/-- Writes bytes at rising addresses. -/
def dputs (m : Sparse Byte) (a : Nat) (b : List Byte) : Sparse Byte :=
  match b with
  | [] => m
  | x :: r => dputs (sput 0 m a x) (a + 1) r

/-- The 64-bit words a span of `n` bytes covers whole, which a write makes good again (R576). -/
def coversWord (a n w : Nat) : Bool := a ≤ 8 * w && 8 * w + 8 ≤ a + n

/-- Writes bytes to DRAM; a word written whole loses its error (R576). -/
def State.dwrite (s : State) (a : Nat) (b : List Byte) : State :=
  s.mapMem (fun m => { m with dram := dputs m.dram a b,
                              dramBad := m.dramBad.filter (fun w => !coversWord a b.length w),
                              dramSingle := m.dramSingle.filter (fun w => !(a < 8 * w + 8 && 8 * w < a + b.length)) })

/-- Stack of a DRAM address, and whether it is in a firmware area (R571, R573). -/
def stackOf (a : Nat) : Nat := a / 2 ^ 32
def inFirmware (a : Nat) : Bool := 0xE0000000 ≤ a % 2 ^ 32

/-- Whether a stack is lost (R579). -/
def State.lost (s : State) (k : Nat) : Bool := s.rfld bDRM 1 (2 * k) 2 == 1

/-- A valid DRAM user region's span in bytes (SEC_DRD_n). -/
def State.region (s : State) (n : Nat) : Option (Nat × Nat × Bool) :=
  let w := s.reg bSEC (0x040 + 2 * n)
  if w.getLsbD 23 then some (fld w 0 14 * 2 ^ 20, s.rfld bSEC (0x041 + 2 * n) 0 14 * 2 ^ 20, w.getLsbD 22) else none

/-- The valid region holding a span of `n` bytes whole. -/
def State.regionOf (s : State) (a n : Nat) : Option Nat :=
  (List.range 16).find? (fun k =>
    match s.region k with
    | some (b, z, _) => b ≤ a && a + n ≤ b + z
    | none => false)

/-- World of a user-area DRAM address (R649). -/
def State.dramWorld (s : State) (a : Nat) : Bool :=
  (List.range 16).any (fun k =>
    match s.region k with
    | some (b, z, sec) => sec && b ≤ a && a < b + z
    | none => false)

/-- A span of whole MiB, coded start · 2^20 + length. -/
def spanCode (start len : Nat) : Nat := start * 2 ^ 20 + len

/-- Whether `n` bytes from `a` meet a coded span. -/
def spanHit (c a n : Nat) : Bool := a < (c / 2 ^ 20 + c % 2 ^ 20) * 2 ^ 20 && c / 2 ^ 20 * 2 ^ 20 < a + n

/-- R645: the span is being cleared. -/
def State.dramBusy (s : State) (a n : Nat) : Bool :=
  s.sys.clears.any (fun e => 2 ^ 40 ≤ e.1 && spanHit (e.1 - 2 ^ 40) a n)

/-- R660: the span was secure and waits for a pending wipe. -/
def State.dramPending (s : State) (a n : Nat) : Bool := s.otp.pendingWipe.any (fun c => spanHit c a n)

/-- R575: what a DRAM read of `n` bytes answers, with its effect on the counters. -/
def State.dramRead (s : State) (a n : Nat) : Status × List Byte × State :=
  let k := stackOf a
  let hit (w : Nat) : Bool := a < 8 * w + 8 && 8 * w < a + n
  match s.mem.dramBad.find? hit with
  | some w =>
    let t := (s.count bDRM (0x014 + k) 1).setReg bDRM 0x018 (BitVec.ofNat 24 (8 * w / 64))
    (.uncorrectable, [], t.setReg bDRM 0x019 (BitVec.ofNat 24 (0x800000 + 8 * w / 2 ^ 30)))
  | none => (.ok, s.dread a n, s.count bDRM (0x010 + k) ((s.mem.dramSingle.filter hit).length))

/-! ### Pigeonhole banks (R584 to R591) -/

/-- Owner codes of PH_OWN_b. -/
def ownHost (p : Port) : Nat := portIdx p + 1
def ownSeq : Nat := 3

def State.owner (s : State) (b : Nat) : Nat := s.rfld bPH (0x100 + b) 0 8
def State.wiping (s : State) (b : Nat) : Bool := (s.reg bPH (0x100 + b)).getLsbD 22

/-- R584: whether an access by an owner code in a world is allowed. -/
def State.bankAllows (s : State) (b own : Nat) (world wr : Bool) : Bool :=
  (own != 0 && s.owner b == own)
    || (!wr && (s.reg bPH (0x100 + b)).getLsbD 21 && (world || !s.bankWorld b))

/-- R588: what a write through a view stores. -/
def viewWrite (view : Nat) (old v : Cont) : Cont :=
  if view = 1 then old ||| v else if view = 2 then old &&& ~~~v else v

/-- An access to one container: status, value read and the state after (R582, R584, R588, R589, R591). -/
def State.bankAccess (s : State) (own : Nat) (world wr : Bool) (view b c : Nat) (v : Cont) : Status × Cont × State :=
  if s.sys.clears.any (fun e => e.1 == 0x1000 + b) || s.wiping b then (.busy, 0, s)
  else if view = 3 then (.badParameter, 0, s)
  else if (s.bankWorld b && !world) || !s.bankAllows b own world wr then (.denied, 0, s)
  else
    let k := 262144 * b + c
    if s.mem.phBad.contains k && !(wr && view = 0) then
      (.uncorrectable, 0, (s.count bPH 0x041 1).setReg bPH 0x042 (BitVec.ofNat 24 k))
    else
      let s1 := if s.mem.phSingle.contains k && !(wr && view = 0) then s.count bPH 0x040 1 else s
      if wr then (.ok, 0, s1.setCont b c (viewWrite view (s.cont b c) v)) else (.ok, s.cont b c, s1)

/-- Bytes as 32-bit containers. -/
def containers (b : List Byte) : List Cont :=
  (List.range ((b.length + 3) / 4)).map (fun i => BitVec.ofNat 32 (leNat ((b.drop (4 * i)).take 4)))

/-- Raw containers written at rising places of a bank. -/
def State.putRaw (s : State) (b c : Nat) (ws : List Cont) : State :=
  match ws with
  | [] => s
  | w :: r => (s.setCont b c w).putRaw b (c + 1) r

end Sys2Proof.Machine
end

