-- ==== Sys2Proof/Machine/Operands.lean ====
section
/-! DEFINITION. The sequencer's register operands (R158 to R163, R227, R232 to R234) and the fields of the VQ24 formats
(R164). -/

namespace Sys2Proof.Machine

/-! ### Formats -/

def fRd (w : BitVec 40) : Nat := fld w 34 6
def fRs1 (w : BitVec 40) : Nat := fld w 28 6
def fRs2 (w : BitVec 40) : Nat := fld w 22 6
def fRs3 (w : BitVec 40) : Nat := fld w 16 6
def fImm (w : BitVec 40) : Word := w.extractLsb' 0 24
/-- Format M. -/
def fMA (w : BitVec 40) : Nat := fld w 30 4
def fMode (w : BitVec 40) : Nat := fld w 27 3
/-- Format BR. -/
def fCond (w : BitVec 40) : Nat := fld w 35 5
def fTarget (w : BitVec 40) : BitVec 18 := w.extractLsb' 0 18
/-- Array formats: the four A-register fields of AF1 and the others' places. -/
def fAd (w : BitVec 40) : Nat := fld w 36 4
def fAs1 (w : BitVec 40) : Nat := fld w 32 4
def fAs2 (w : BitVec 40) : Nat := fld w 28 4
def fAs3 (w : BitVec 40) : Nat := fld w 24 4
def fW (w : BitVec 40) : Nat := fld w 16 8 + 1
def fA8 (w : BitVec 40) : Nat := fld w 8 8
def fD8 (w : BitVec 40) : Nat := fld w 0 8

/-! ### Register classes (R159) -/

def isD (r : Nat) : Bool := r < 32
def isA (r : Nat) : Bool := 32 ≤ r && r < 48
def isDA (r : Nat) : Bool := r < 48
def isAC (r : Nat) : Bool := 48 ≤ r && r < 56

/-! ### D registers -/

/-- The physical register that D`r` names (R163, R227, R258). -/
def dPhys (q : Seq) (r : Nat) : Nat :=
  if r < 8 then r
  else if r < 24 then (if q.tw then 200 + (r - 8) else 8 + 16 * q.top.val + (r - 8))
  else 8 + 16 * ((q.top.val + 1) % 12) + (r - 24)

/-- The dirty bit of a physical register's group (R232): globals 0 and 1, ring 2 to 49, trap window 50 to 53. -/
def dGroup (p : Nat) : Nat := p / 4

/-- R233: a register in a clean group reads 0. -/
def physGet (q : Seq) (p : Nat) : Word := if q.dDirty.getLsbD (dGroup p) then sget 0 q.dRegs p else 0

/-- R233: a write to a clean group makes it dirty, its other three registers reading 0. -/
def physSet (q : Seq) (p : Nat) (v : Word) : Seq :=
  let base := if q.dDirty.getLsbD (dGroup p) then q.dRegs
    else q.dRegs.filter (fun e => dGroup e.1 != dGroup p)
  { q with dRegs := sput 0 base p v, dDirty := q.dDirty ||| BitVec.ofNat 54 (2 ^ dGroup p) }

/-- Marks a group clean (R234). -/
def cleanGroup (q : Seq) (g : Nat) : Seq := { q with dDirty := q.dDirty &&& ~~~(BitVec.ofNat 54 (2 ^ g)) }

/-- Groups of ring window `w`, and of the trap window. -/
def winGroup (w j : Nat) : Nat := 2 + 4 * w + j
def trapGroup (j : Nat) : Nat := 50 + j

def dGet (q : Seq) (r : Nat) : Word := physGet q (dPhys q r)
def dSet (q : Seq) (r : Nat) (v : Word) : Seq := physSet q (dPhys q r) v

/-! ### A and AC registers -/

def aGet (q : Seq) (r : Nat) : Word := sget 0 q.aRegs r
def aSet (q : Seq) (r : Nat) (v : Word) : Seq := { q with aRegs := sput 0 q.aRegs r v }

/-- R233: a clean accumulator reads 0. -/
def acGet (q : Seq) (n : Nat) : BitVec 72 := if q.acDirty.getLsbD n then sget 0 q.acRegs n else 0
def acSet (q : Seq) (n : Nat) (v : BitVec 72) : Seq :=
  { q with acRegs := sput 0 q.acRegs n v, acDirty := q.acDirty ||| BitVec.ofNat 8 (2 ^ n) }
/-- ACCLR (R234). -/
def acClean (q : Seq) (n : Nat) : Seq := { q with acDirty := q.acDirty &&& ~~~(BitVec.ofNat 8 (2 ^ n)) }

/-- Reads a D or A register by specifier. -/
def daGet (q : Seq) (r : Nat) : Word := if r < 32 then dGet q r else aGet q (r - 32)
/-- Writes a D or A register by specifier. -/
def daSet (q : Seq) (r : Nat) (v : Word) : Seq := if r < 32 then dSet q r v else aSet q (r - 32) v
/-- Reads and writes an accumulator by specifier. -/
def acOf (q : Seq) (r : Nat) : BitVec 72 := acGet q (r - 48)
def acTo (q : Seq) (r : Nat) (v : BitVec 72) : Seq := acSet q (r - 48) v

/-- R162: the binary32 and binary64 values of an accumulator. -/
def acF32 (q : Seq) (r : Nat) : BitVec 32 := (acOf q r).extractLsb' 0 32
def acF64 (q : Seq) (r : Nat) : BitVec 64 := (acOf q r).extractLsb' 0 64

/-! ### Dirty bits of the current frame (SEQ_DIRTY) -/

def dirtyReg (q : Seq) : Word :=
  let fr := (List.range 6).map (fun j =>
    let g := if j < 4 then (if q.tw then trapGroup j else winGroup q.top.val j) else winGroup ((q.top.val + 1) % 12) (j - 4)
    (q.dDirty.getLsbD g).toNat * 2 ^ (2 + j))
  BitVec.ofNat 24 (q.acDirty.toNat * 256 + fr.sum + q.dDirty.toNat % 4)

end Sys2Proof.Machine
end

