-- ==== Sys2Proof/Machine/Flags.lean ====
section
/-! DEFINITION. SEQ_CR: the flag rules of R182 and the conditions of R183; and the integer results whose flags they are
(R184, R312 to R319). -/

namespace Sys2Proof.Machine

/-- SEQ_CR from its bits. -/
def mkCr (d n z c v : Bool) : BitVec 5 :=
  BitVec.ofNat 5 (16 * d.toNat + 8 * n.toNat + 4 * z.toNat + 2 * c.toNat + v.toNat)

def crV (r : BitVec 5) : Bool := r.getLsbD 0
def crC (r : BitVec 5) : Bool := r.getLsbD 1
def crZ (r : BitVec 5) : Bool := r.getLsbD 2
def crN (r : BitVec 5) : Bool := r.getLsbD 3
def crD (r : BitVec 5) : Bool := r.getLsbD 4

/-- N and Z of a result, C and V given, D unchanged. -/
def crNZCV (old : BitVec 5) (x : Word) (c v : Bool) : BitVec 5 := mkCr (crD old) x.msb (x == 0) c v

/-- N and Z of a result, the rest unchanged. -/
def crNZ (old : BitVec 5) (x : Word) : BitVec 5 := mkCr (crD old) x.msb (x == 0) (crC old) (crV old)

/-- A result with the flags it sets. -/
structure Alu where
  value : Word
  cr : BitVec 5
  deriving DecidableEq, Repr

/-- x + y + c with carry and overflow (ADD, ADDI, ADC). -/
def addWith (old : BitVec 5) (x y : Word) (c : Bool) : Alu :=
  let r := x + y + BitVec.ofNat 24 c.toNat
  let carry := 2 ^ 24 ≤ x.toNat + y.toNat + c.toNat
  let ovf := x.msb == y.msb && r.msb != x.msb
  { value := r, cr := crNZCV old r carry ovf }

/-- x − y − (1 − c), with C meaning no borrow (SUB, SUBI, SBC, CMP, CMPI). -/
def subWith (old : BitVec 5) (x y : Word) (c : Bool) : Alu := 
  let r := x - y - BitVec.ofNat 24 (1 - c.toNat)
  let noBorrow := y.toNat + (1 - c.toNat) ≤ x.toNat
  let ovf := x.msb != y.msb && r.msb != x.msb
  { value := r, cr := crNZCV old r noBorrow ovf }

/-- AND, OR, XOR, NOT: N and Z only. -/
def logicOf (old : BitVec 5) (r : Word) : Alu := { value := r, cr := crNZ old r }

/-- R318: NEG. -/
def negOf (old : BitVec 5) (x : Word) : Alu :=
  { value := 0 - x, cr := crNZCV old (0 - x) false (x == 0x800000) }

/-- R318: ABS. -/
def absOf (old : BitVec 5) (x : Word) : Alu :=
  let r := if x.msb then 0 - x else x
  { value := r, cr := crNZCV old r false (x == 0x800000) }

/-- R182, R319: a shift's flags: none when the count is 0. -/
def shiftAlu (old : BitVec 5) (x : Word) (c : Nat) (r : Word) (cout v : Bool) : Alu :=
  if c = 0 then { value := x, cr := old } else { value := r, cr := crNZCV old r cout v }

/-- R319: SHL. -/
def shlOf (old : BitVec 5) (x : Word) (c : Nat) : Alu :=
  shiftAlu old x c (if c < 24 then x <<< c else 0) (if c ≤ 24 then x.getLsbD (24 - c) else false) false

/-- R319: SHR. -/
def shrOf (old : BitVec 5) (x : Word) (c : Nat) : Alu :=
  shiftAlu old x c (if c < 24 then x >>> c else 0) (if c ≤ 24 then x.getLsbD (c - 1) else false) false

/-- R319: SAR. -/
def sarOf (old : BitVec 5) (x : Word) (c : Nat) : Alu :=
  shiftAlu old x c (x.sshiftRight (min c 24)) (if c < 24 then x.getLsbD (c - 1) else x.msb) false

/-- R319: SAL, with V for bits [w − 1 : w − 1 − c] not all equal. -/
def salOf (old : BitVec 5) (x : Word) (c : Nat) : Alu :=
  let top := (List.range 24).filter (fun i => 23 - c ≤ i)
  let v := if c ≤ 23 then !(top.all (fun i => x.getLsbD i) || top.all (fun i => !x.getLsbD i)) else x != 0
  shiftAlu old x c (if c < 24 then x <<< c else 0) (if c ≤ 24 then x.getLsbD (24 - c) else false) v

/-- R319: ROL. -/
def rolOf (old : BitVec 5) (x : Word) (c : Nat) : Alu :=
  let r := x.rotateLeft (c % 24)
  shiftAlu old x c r (r.getLsbD 0) false

/-- R319: ROR. -/
def rorOf (old : BitVec 5) (x : Word) (c : Nat) : Alu :=
  let r := x.rotateRight (c % 24)
  shiftAlu old x c r r.msb false

/-- R312: the digits an early-ending multiply retires. -/
def mulDigits (signed : Bool) (y : Word) : Nat :=
  ((List.range 6).find? (fun j =>
    (List.range 24).all (fun i => i < 4 * (j + 1) || (y.getLsbD i == (signed && y.msb))))).getD 5 + 1

/-- R312, R313: issue cycles of a multiply. -/
def mulCycles (locked signed : Bool) (y : Word) : Nat := if locked then 7 else 1 + mulDigits signed y

/-- The 48-bit product, extended to 72 bits. -/
def mulU (x y : Word) : BitVec 72 := BitVec.ofNat 72 (x.toNat * y.toNat)
def mulS (x y : Word) : BitVec 72 := BitVec.ofInt 72 (x.toInt * y.toInt)

/-- R316, R318: unsigned quotient and remainder. -/
def divU (x y : Word) : Word × Word :=
  if y = 0 then (BitVec.allOnes 24, x) else (BitVec.ofNat 24 (x.toNat / y.toNat), BitVec.ofNat 24 (x.toNat % y.toNat))

/-- R316, R318: signed quotient truncated toward zero, and remainder. -/
def divS (x y : Word) : Word × Word :=
  if y = 0 then (BitVec.allOnes 24, x)
  else (BitVec.ofInt 24 (x.toInt.tdiv y.toInt), BitVec.ofInt 24 (x.toInt.tmod y.toInt))

/-- SEQ_CR after a divide (R182): V and D only. -/
def divCr (old : BitVec 5) (v d : Bool) : BitVec 5 := mkCr d (crN old) (crZ old) (crC old) v

/-- R183: a condition of SEQ_CR and the GOR condition; reserved codes are false here and trap at the branch. -/
def condTrue (cond : Nat) (r : BitVec 5) (gor : Bool) : Bool :=
  match cond with
  | 0 => true
  | 1 => crZ r
  | 2 => !crZ r
  | 3 => crC r
  | 4 => !crC r
  | 5 => crN r
  | 6 => !crN r
  | 7 => crV r
  | 8 => !crV r
  | 9 => crC r && !crZ r
  | 10 => !crC r || crZ r
  | 11 => crN r == crV r
  | 12 => crN r != crV r
  | 13 => !crZ r && crN r == crV r
  | 14 => crZ r || crN r != crV r
  | 15 => crD r
  | 16 => gor
  | 17 => !gor
  | _ => false

end Sys2Proof.Machine
end

