-- ==== Sys2Proof/Machine/Float.lean ====
section
/-! DEFINITION. Floating-point results common to the sequencer and the Canvas (R321 to R334), for binary32 and binary64,
by exact integer arithmetic with one rounding. -/

namespace Sys2Proof.Machine

/-- A binary format: exponent field bits and fraction bits. -/
structure Fmt where
  eb : Nat
  mb : Nat
  deriving DecidableEq, Repr

def f32 : Fmt := ⟨8, 23⟩
def f64 : Fmt := ⟨11, 52⟩

/-- Exponent of the last place of subnormal numbers, and of the largest finite numbers. -/
def Fmt.emin (f : Fmt) : Int := 2 - (2 ^ (f.eb - 1) : Nat) - f.mb
def Fmt.emax (f : Fmt) : Int := ((2 ^ (f.eb - 1) : Nat) : Int) - 1 - f.mb

/-- What a floating-point operand is: its sign with its class; a finite value is ± m · 2^e. -/
inductive Fv where
  | nan (signalling : Bool)
  | inf (neg : Bool)
  | fin (neg : Bool) (m : Nat) (e : Int)
  deriving DecidableEq, Repr

/-- The value of an encoding. -/
def unpack (f : Fmt) (x : Nat) : Fv :=
  let fr := x % 2 ^ f.mb
  let ex := x / 2 ^ f.mb % 2 ^ f.eb
  let sg := x / 2 ^ (f.mb + f.eb) % 2 == 1
  if ex = 2 ^ f.eb - 1 then (if fr = 0 then .inf sg else .nan (fr / 2 ^ (f.mb - 1) == 0))
  else if ex = 0 then .fin sg fr f.emin
  else .fin sg (fr + 2 ^ f.mb) (f.emin + ex - 1)

/-- A result with the exceptions it raises: NV, DZ, OF, UF, NX from bit 0. -/
structure Fr where
  bits : Nat
  flags : BitVec 5
  deriving DecidableEq, Repr

def fNV : BitVec 5 := 1
def fDZ : BitVec 5 := 2
def fOF : BitVec 5 := 4
def fUF : BitVec 5 := 8
def fNX : BitVec 5 := 16

def signBit (f : Fmt) (neg : Bool) : Nat := neg.toNat * 2 ^ (f.mb + f.eb)
/-- R323. -/
def qnan (f : Fmt) : Nat := (2 ^ f.eb - 1) * 2 ^ f.mb + 2 ^ (f.mb - 1)
def infBits (f : Fmt) (neg : Bool) : Nat := signBit f neg + (2 ^ f.eb - 1) * 2 ^ f.mb
def maxBits (f : Fmt) (neg : Bool) : Nat := infBits f neg - 1
def zeroBits (f : Fmt) (neg : Bool) : Nat := signBit f neg

/-- Whether rounding in mode `rm` adds one unit: `odd` last bit, `half` and `rest` of what is cut off. -/
def roundsUp (rm : Nat) (neg odd half rest : Bool) : Bool :=
  match rm with
  | 0 => half && (rest || odd)
  | 1 => false
  | 2 => !neg && (half || rest)
  | _ => neg && (half || rest)

/-- `m · 2^e` (with more below when `sticky`) as a multiple of 2^lsb: the rounded multiple, and whether it is inexact. -/
def roundAt (rm : Nat) (neg : Bool) (m : Nat) (e : Int) (sticky : Bool) (lsb : Int) : Nat × Bool :=
  if lsb ≤ e then
    let k := m * 2 ^ (e - lsb).toNat
    (if roundsUp rm neg (k % 2 == 1) false sticky then k + 1 else k, sticky)
  else
    let sh := (lsb - e).toNat
    let k := m / 2 ^ sh
    let r := m % 2 ^ sh
    let half := 2 ^ (sh - 1) ≤ r
    let rest := r % 2 ^ (sh - 1) != 0 || sticky
    (if roundsUp rm neg (k % 2 == 1) half rest then k + 1 else k, r != 0 || sticky)

/-- R327: the result of an overflow. -/
def overflowBits (f : Fmt) (rm : Nat) (neg : Bool) : Nat :=
  if rm = 0 || (rm = 2 && !neg) || (rm = 3 && neg) then infBits f neg else maxBits f neg

/-- R321, R322, R327 to R329: one rounding of ± m · 2^e, m > 0, into a format. -/
def roundPack (f : Fmt) (rm : Nat) (neg : Bool) (m : Nat) (e : Int) (sticky : Bool) : Fr :=
  let q := e + Nat.log2 m - f.mb
  let lsb := max q f.emin
  let (k0, nx) := roundAt rm neg m e sticky lsb
  let big := k0 = 2 ^ (f.mb + 1)
  let k := if big then 2 ^ f.mb else k0
  let l := if big then lsb + 1 else lsb
  let ku := (roundAt rm neg m e sticky q).1
  let tiny := q < f.emin && !(ku = 2 ^ (f.mb + 1) && f.emin ≤ q + 1)
  if f.emax < l && 2 ^ f.mb ≤ k then { bits := overflowBits f rm neg, flags := fOF ||| fNX }
  else
    let enc := if k < 2 ^ f.mb then k else (l - f.emin + 1).toNat * 2 ^ f.mb + (k - 2 ^ f.mb)
    { bits := signBit f neg + enc,
      flags := (if nx then fNX else 0) ||| (if tiny && nx then fUF else 0) }

/-- A finite value, zero keeping the sign given. -/
def packFin (f : Fmt) (rm : Nat) (neg : Bool) (m : Nat) (e : Int) : Fr :=
  if m = 0 then { bits := zeroBits f neg, flags := 0 } else roundPack f rm neg m e false

/-- The canonical NaN, with NV when `iv`. -/
def nanOf (f : Fmt) (iv : Bool) : Fr := { bits := qnan f, flags := if iv then fNV else 0 }

def isNan (v : Fv) : Bool := match v with | .nan _ => true | _ => false
def isSnan (v : Fv) : Bool := match v with | .nan s => s | _ => false
def isInf (v : Fv) : Bool := match v with | .inf _ => true | _ => false
def isZero (v : Fv) : Bool := match v with | .fin _ m _ => m == 0 | _ => false
def negOfFv (v : Fv) : Bool := match v with | .nan _ => false | .inf n => n | .fin n _ _ => n

/-- The exact sum of two finite values, as a signed integer at a common exponent. -/
def sumAt (n1 : Bool) (m1 : Nat) (e1 : Int) (n2 : Bool) (m2 : Nat) (e2 : Int) : Int × Int :=
  let e := min e1 e2
  let a : Int := m1 * 2 ^ (e1 - e).toNat
  let b : Int := m2 * 2 ^ (e2 - e).toNat
  ((if n1 then -a else a) + (if n2 then -b else b), e)

/-- R326: sum of two finite values. -/
def addFin (f : Fmt) (rm : Nat) (n1 : Bool) (m1 : Nat) (e1 : Int) (n2 : Bool) (m2 : Nat) (e2 : Int) : Fr :=
  let (t, e) := sumAt n1 m1 e1 n2 m2 e2
  if t = 0 then { bits := zeroBits f (if n1 == n2 then n1 else rm == 3), flags := 0 }
  else roundPack f rm (t < 0) t.natAbs e false

def fneg (v : Fv) : Fv :=
  match v with
  | .nan s => .nan s
  | .inf n => .inf (!n)
  | .fin n m e => .fin (!n) m e

/-- Addition (R324, R326). -/
def addFv (f : Fmt) (rm : Nat) (x y : Fv) : Fr :=
  match x, y with
  | .nan _, _ => nanOf f (isSnan x || isSnan y)
  | _, .nan _ => nanOf f (isSnan x || isSnan y)
  | .inf a, .inf b => if a == b then { bits := infBits f a, flags := 0 } else nanOf f true
  | .inf a, _ => { bits := infBits f a, flags := 0 }
  | _, .inf b => { bits := infBits f b, flags := 0 }
  | .fin n1 m1 e1, .fin n2 m2 e2 => addFin f rm n1 m1 e1 n2 m2 e2

/-- Multiplication (R324). -/
def mulFv (f : Fmt) (rm : Nat) (x y : Fv) : Fr :=
  let sg := negOfFv x != negOfFv y
  if isNan x || isNan y then nanOf f (isSnan x || isSnan y)
  else match x, y with
  | .fin _ m1 e1, .fin _ m2 e2 => packFin f rm sg (m1 * m2) (e1 + e2)
  | _, _ => if isZero x || isZero y then nanOf f true else { bits := infBits f sg, flags := 0 }

/-- Fused multiply-add, rounded once (R321, R324). -/
def fmaFv (f : Fmt) (rm : Nat) (x y z : Fv) : Fr :=
  let sg := negOfFv x != negOfFv y
  let zeroInf := (isZero x && isInf y) || (isInf x && isZero y)
  if isSnan x || isSnan y || isSnan z || zeroInf then nanOf f true
  else if isNan x || isNan y || isNan z then nanOf f false
  else match x, y with
  | .fin _ m1 e1, .fin _ m2 e2 =>
    match z with
    | .fin n3 m3 e3 => addFin f rm sg (m1 * m2) (e1 + e2) n3 m3 e3
    | _ => { bits := infBits f (negOfFv z), flags := 0 }
  | _, _ => if isInf z && negOfFv z != sg then nanOf f true else { bits := infBits f sg, flags := 0 }

/-- Division (R324, R325). -/
def divFv (f : Fmt) (rm : Nat) (x y : Fv) : Fr :=
  let sg := negOfFv x != negOfFv y
  if isNan x || isNan y then nanOf f (isSnan x || isSnan y)
  else match x, y with
  | .inf _, .inf _ => nanOf f true
  | .inf _, _ => { bits := infBits f sg, flags := 0 }
  | _, .inf _ => { bits := zeroBits f sg, flags := 0 }
  | .fin _ m1 e1, .fin _ m2 e2 =>
    if m2 = 0 then (if m1 = 0 then nanOf f true else { bits := infBits f sg, flags := fDZ })
    else if m1 = 0 then { bits := zeroBits f sg, flags := 0 }
    else
      let sh := 2 * f.mb + 8
      let q := m1 * 2 ^ sh / m2
      roundPack f rm sg q (e1 - e2 - sh) (m1 * 2 ^ sh % m2 != 0)
  | _, _ => nanOf f false

/-- Square root (R324, R326). -/
def sqrtFv (f : Fmt) (rm : Nat) (x : Fv) : Fr :=
  match x with
  | .nan s => nanOf f s
  | .inf n => if n then nanOf f true else { bits := infBits f false, flags := 0 }
  | .fin n m e =>
    if m = 0 then { bits := zeroBits f n, flags := 0 }
    else if n then nanOf f true
    else
      let sh := 2 * f.mb + 8 + (e - (2 * f.mb + 8)).toNat % 2 + (if (e - (2 * f.mb + 8)) < 0 then
        (-(e - (2 * f.mb + 8))).toNat % 2 else 0)
      let big := m * 2 ^ sh
      let r := Nat.sqrt big
      roundPack f rm false r ((e - sh) / 2) (r * r != big)

/-- Outcome of a comparison (R182, R330). -/
inductive Cmp where
  | less | equal | greater | unordered
  deriving DecidableEq, Repr

def cmpFv (x y : Fv) : Cmp :=
  match x, y with
  | .nan _, _ => .unordered
  | _, .nan _ => .unordered
  | .inf a, .inf b => if a == b then .equal else if a then .less else .greater
  | .inf a, _ => if a then .less else .greater
  | _, .inf b => if b then .greater else .less
  | .fin n1 m1 e1, .fin n2 m2 e2 =>
    let (t, _) := sumAt n1 m1 e1 (!n2) m2 e2
    if t = 0 then .equal else if t < 0 then .less else .greater

/-- R330: a comparison raises NV only for a signalling NaN. -/
def cmpFlags (x y : Fv) : BitVec 5 := if isSnan x || isSnan y then fNV else 0

/-- R331: conversion to an integer of `w` bits. -/
def toIntFv (rm : Nat) (signed : Bool) (w : Nat) (x : Fv) : Fr :=
  let hi : Int := if signed then 2 ^ (w - 1) - 1 else 2 ^ w - 1
  let lo : Int := if signed then -(2 ^ (w - 1)) else 0
  let enc (i : Int) : Nat := (i % (2 ^ w : Nat)).toNat
  match x with
  | .nan _ => { bits := 0, flags := fNV }
  | .inf n => { bits := enc (if n then lo else hi), flags := fNV }
  | .fin n m e =>
    let (k, nx) := roundAt rm n m e false 0
    let i : Int := if n then -k else k
    if i < lo then { bits := enc lo, flags := fNV }
    else if hi < i then { bits := enc hi, flags := fNV }
    else { bits := enc i, flags := if nx then fNX else 0 }

/-- R332: conversion from an integer. -/
def fromInt (f : Fmt) (rm : Nat) (i : Int) : Fr :=
  if i = 0 then { bits := 0, flags := 0 } else roundPack f rm (i < 0) i.natAbs 0 false

/-- R332: conversion between formats. -/
def convFv (f : Fmt) (rm : Nat) (x : Fv) : Fr :=
  match x with
  | .nan s => nanOf f s
  | .inf n => { bits := infBits f n, flags := 0 }
  | .fin n m e => packFin f rm n m e

/-- The operations of R186, by opcode position 0 to 5: add, subtract, multiply, fused, divide, square root. -/
def fpOp (f : Fmt) (rm k : Nat) (a b c : Nat) : Fr :=
  let x := unpack f a
  let y := unpack f b
  match k with
  | 0 => addFv f rm x y
  | 1 => addFv f rm x (fneg y)
  | 2 => mulFv f rm x y
  | 3 => fmaFv f rm x y (unpack f c)
  | 4 => divFv f rm x y
  | _ => sqrtFv f rm x

end Sys2Proof.Machine
end

