-- ==== Sys2Proof/Machine/Trigger.lean ====
section
/-! DEFINITION. What the trigger tells the outside world (12): BUSY, the accept pins, beat windows and the trigger word. -/

namespace Sys2Proof.Machine

/-- Lane `l`'s registers. -/
def lqBlk (l : Nat) : Nat := bLQ + l / 4
def State.laneEn (s : State) (l : Nat) : Bool := (s.reg (lqBlk l) (4 + l % 4)).getLsbD 23
def State.laneState (s : State) (l : Nat) : Nat := s.rfld (lqBlk l) (8 + l % 4) 20 2

/-! ### BUSY and DEGRADED (R480, R491, R492) -/

/-- HALT of R492: the sequencer stands halted under R192 or R261. -/
def State.halt (s : State) : Bool := s.seq.halted

/-- THERMAL FALLBACK is the clock point in effect (R480). -/
def State.fallback (s : State) : Bool := s.rfld bFRK 0 22 2 == 3

/-- OUT_BUSY.VETO (R493). -/
def State.vetoed (s : State) : Bool := (s.reg bOUT 0).getLsbD 7 && s.out.veto

/-- The causes of R492 other than FAULT and HALT, which R489 treats alike. -/
def State.softBusy (s : State) : Bool := s.vetoed || s.out.deadtime || s.out.thermal || (s.reg bOUT 1).getLsbD 23

/-- The level of BUSY_P/N. -/
def State.busy (s : State) : Bool := s.sys.mode != .run || s.softBusy || s.out.fault || s.halt

/-- OUT_BUSY as read. -/
def State.outBusy (s : State) : Word :=
  bitsOf 24 (fun i =>
    if i = 23 then (s.reg bOUT 1).getLsbD 23 else if i = 7 then s.sys.mode != .run else if i = 6 then s.vetoed
    else if i = 5 then s.out.deadtime else if i = 4 then s.out.fault else if i = 3 then s.out.thermal
    else if i = 2 then s.halt else if i = 0 then s.busy else false)

/-- The LANE bits of R478. -/
def State.laneBits (s : State) : BitVec 144 := bitsOf 144 (fun l => s.laneEn l && s.laneState l != 3)

/-- R480. A stack is served from its mirror while it is lost and its partner is not. -/
def State.degraded (s : State) : Bool :=
  geomState s.cv.failed != 0 || s.laneBits != 0 || (List.range 4).any (fun k => s.lost k) || s.sys.takenOver || s.fallback

/-! ### Accept pins (R488 to R490) -/

/-- The level that the mode of accept pin `n` gives (R488): a pulse lasts while its count of array cycles does. -/
def State.accLevel (s : State) (n : Nat) : Bool :=
  match s.rfld bOUT (4 + n) 22 2 with
  | 1 => s.out.accHigh.getLsbD n
  | 2 => sget 0 s.out.pulse n != 0
  | _ => false

/-- The level of accept pin `n` (R489). -/
def State.accPin (s : State) (n : Nat) : Bool :=
  s.sys.mode == .run && !s.out.fault && !s.halt && !((s.reg bOUT (4 + n)).getLsbD 19 && s.softBusy)
    && s.out.accSeen.getLsbD n && s.accLevel n

/-- R488, R489: a delivery to flag group `g` reaches the pins that select it. While the FAULT or HALT cause holds it does not, and a pin
waits for the next. -/
def State.pinsTake (s : State) (g : Nat) (v : Bool) : State :=
  if s.sys.mode != .run || s.out.fault || s.halt then s
  else (List.range 4).foldl (fun s n =>
    let a := s.reg bOUT (4 + n)
    if fld a 20 2 != g then s
    else s.mapOut (fun o => { o with
      accSeen := setBit o.accSeen n true, accHigh := setBit o.accHigh n v,
      pulse := if fld a 22 2 = 2 && v then sput 0 o.pulse n (fld a 0 8) else o.pulse })) s

/-- R488: an array cycle passes for the pulses. -/
def State.pulseTick (s : State) : State :=
  if s.out.pulse.isEmpty then s
  else s.mapOut (fun o => { o with pulse := o.pulse.filterMap (fun e => if e.2 ≤ 1 then none else some (e.1, e.2 - 1)) })

/-- ACC_PULSE_END: the pulse of a pin falls in its last array cycle. -/
def State.pulseEnd (s : State) (n : Nat) : State :=
  if sget 0 s.out.pulse n = 1 then s.mapOut (fun o => { o with pulse := sdel o.pulse n }) else s

def execAccPulseEnd (n : Fin 4) (s : State) : Host.Outcome State Fault Refusal := .next (s.pulseEnd n)

/-! ### The trigger word (R475 to R482, R746) -/

/-- R477: the postmark the word built now carries. The close cycle lies in the window's own beat only when LAG is 0. -/
def State.wordMark (s : State) : BitVec 48 :=
  (s.tim.marks[(if s.rfld bOUT 0 16 8 = 0 then 0 else 1) + s.rfld bOUT 0 8 8]?).getD 0

/-- The word of R482 in the close cycle. -/
def State.triggerWord (s : State) : BitVec 512 :=
  let o := s.out
  let lanes := s.laneBits
  let bits : BitVec 16 := bitsOf 16 (fun i =>
    if i = 0 then s.busy else if i = 1 then s.seq.tl else if i = 2 then s.degraded else if i = 3 then lanes != 0
    else if i = 4 then o.deadtime else if i = 5 then s.vetoed else if i < 8 then (geomState s.cv.failed).testBit (i - 6)
    else o.aliveCnt.getLsbD (i - 8))
  o.region ++ 0#16 ++ lanes ++ bits ++ 0#1 ++ BitVec.ofBool o.rcapw ++ BitVec.ofBool o.tcapw ++ s.red.count ++ o.gdlv
    ++ o.gor ++ s.wordMark

/-- R479: words are built in ARMED and RUN. -/
def State.building (s : State) : Bool := s.sys.mode == .armed || s.sys.mode == .run

/-- R475, R476, R479: the close cycle of a beat window: the word, where words are built, and the next window begins empty. -/
def State.closeWindow (s : State) : State :=
  let word := if s.building then s.triggerWord else s.out.word
  s.mapOut (fun o => { o with
    word := word, aliveCnt := if s.building then o.aliveCnt + 1 else o.aliveCnt, gor := 0, gdlv := 0, tcapw := false,
    rcapw := false, closed := true })

/-- R475: in the array cycle of phase `p` the window of the beat before closes, when the next cycle's phase is LAG. -/
def State.windowTick (s : State) (p : Nat) : State :=
  if !s.out.closed && p + 1 = s.rfld bOUT 0 16 8 then s.closeWindow else s

/-- R475: in the last array cycle of a beat the window closes that has not closed before: with LAG 0 the beat's own, else that of the beat
before, for which the beat has had no cycle of phase LAG. -/
def State.windowEdge (s : State) : State :=
  (if s.out.closed then s else s.closeWindow).mapOut (fun o => { o with closed := false })

/-- TRIGGER_WORD: the array cycle now due is the close cycle, the one before phase LAG, and the beat has closed no window yet. Where the
close cycle is the last of a beat, BEAT closes the window. -/
def State.windowDue (s : State) : State := s.windowTick s.seq.bphase

def execTriggerWord (s : State) : Host.Outcome State Fault Refusal := .next s.windowDue

end Sys2Proof.Machine
end

