-- ==== Sys2Proof/Machine/Pe.lean ====
section
/-! DEFINITION. The Canvas: planes over PEs, neighbours (R88), what one array cycle does to every PE (R37), bit-row ECC
(R60 to R68), side accesses (R148 to R153) and the reductions (R101 to R118). -/

namespace Sys2Proof.Machine

/-! ### Planes -/

/-- The plane whose bit at PE `i` is `p i`. -/
def planeOf (p : Nat → Bool) : Plane := bitsOf numPE p

/-- Physical tile, column tile, row segment and position of a PE. -/
def peTile (i : Nat) : Nat := 16 * (i / 65536) + i % 1024 / 64
def peSeg (i : Nat) : Nat := i / 1024 % 64
def pePos (i : Nat) : Nat := i % 64

/-- The PE of a physical tile at row segment `g` and position `p`. -/
def peAt (t g p : Nat) : Nat := 65536 * (t / 16) + 1024 * g + 64 * (t % 16) + p

/-- The PEs of a set of physical tiles. -/
def tilesPlane (ts : BitVec 272) : Plane := planeOf (fun i => ts.getLsbD (peTile i))

/-- `new` in the PEs of `e`, `old` elsewhere. -/
def blend (e new old : Plane) : Plane := (e &&& new) ||| (~~~e &&& old)

def pget (m : Sparse Plane) (k : Nat) : Plane := sget 0 m k
def pset (m : Sparse Plane) (k : Nat) (p : Plane) : Sparse Plane := sput 0 m k p

/-- Every plane of a register of 16, changed in the PEs of `e`. -/
def blend16 (e : Plane) (new old : Sparse Plane) : Sparse Plane :=
  (List.range 16).foldl (fun m k => pset m k (blend e (pget new k) (pget old k))) old

/-- A tile's 4,096 bits of a plane, bit 64·segment + position. -/
def tileGet (p : Plane) (t : Nat) : BitVec 4096 :=
  bitsOf 4096 (fun j => p.getLsbD (peAt t (j / 64) (j % 64)))

/-- A plane with a tile's bits replaced. -/
def tilePut (p : Plane) (t : Nat) (d : BitVec 4096) : Plane :=
  planeOf (fun i => if peTile i = t then d.getLsbD (64 * peSeg i + pePos i) else p.getLsbD i)

/-! ### Which tiles execute, and neighbours -/

/-- R102: tiles in service that carry a logical tile and are powered. -/
def State.liveTiles (s : State) : BitVec 272 :=
  bitsOf 272 (fun t => (lrowOf s.cv.failed (t / 16)).isSome && s.cv.power.getLsbD t)

/-- Tiles that admit words: live and past their zeroing (R36). -/
def State.readyTiles (s : State) : BitVec 272 :=
  s.liveTiles &&& ~~~s.cv.zeroing &&& ~~~(s.sys.held.foldl (fun m d => setBit m d true) (0 : BitVec 272))

/-- Tiles whose world may be reached by a word of world `wt` (R56, R57). -/
def State.worldTiles (s : State) (wt : Bool) : BitVec 272 :=
  bitsOf 272 (fun t => wt || !s.physWorld t)

/-- R129: tiles that execute a valid word of world `wt`. -/
def State.execTiles (s : State) (wt : Bool) : BitVec 272 := s.readyTiles &&& s.worldTiles wt

/-- The physical PE at logical (x, y). -/
def pePhys (failed : List Nat) (x y : Nat) : Option Nat :=
  (prowOf failed (y / 64)).map (fun p => 65536 * p + 1024 * (y % 64) + x)

/-- The logical y of a physical PE. -/
def peLogY (failed : List Nat) (i : Nat) : Option Nat := (lrowOf failed (i / 65536)).map (fun t => 64 * t + peSeg i)

/-- R88: the neighbour of a PE in direction 1 north, 2 east, 3 south, 4 west; a word with a reserved direction code does not read
it (`State.pe`). -/
def neighbour (failed : List Nat) (dir i : Nat) : Option Nat :=
  match peLogY failed i with
  | none => none
  | some y =>
    let h := height failed
    let x := i % 1024
    match dir with
    | 1 => pePhys failed x ((y + 1) % h)
    | 2 => pePhys failed ((x + 1) % 1024) y
    | 3 => pePhys failed x ((y + h - 1) % h)
    | _ => pePhys failed ((x + 1023) % 1024) y

/-- R55, R58: what a PE receives of a plane from its neighbour in `dir`. -/
def State.shifted (s : State) (n : Plane) (dir : Nat) : Plane :=
  planeOf (fun i =>
    match neighbour s.cv.failed dir i with
    | none => false
    | some j =>
      s.cv.power.getLsbD (peTile j) && !(s.physWorld (peTile j) && !s.physWorld (peTile i)) && n.getLsbD j)

/-! ### Bit-row ECC -/

/-- The bit-rows at an address that hold an error, each with its error positions. -/
def flipRows (fl : List Flip) (addr : Nat) : List (Nat × Nat × List Nat) :=
  (List.range (272 * 64)).filterMap (fun k =>
    let ps := (fl.filter (fun f => f.addr == addr && f.tile == k / 64 && f.seg == k % 64)).map Flip.pos
    if ps.isEmpty then none else some (k / 64, k % 64, ps))

/-- R61, R64: what a read of a bit address delivers: corrected data, or the stored bits of an uncorrectable row. -/
def Canvas.readPlane (c : Canvas) (addr : Nat) : Plane :=
  let rows := (flipRows (c.flips.filter (fun f => f.addr == addr)) addr).filter (fun r => 2 ≤ r.2.2.length)
  if rows.isEmpty then pget c.mem addr
  else planeOf (fun i => (pget c.mem addr).getLsbD i !=
    rows.any (fun r => r.1 == peTile i && r.2.1 == peSeg i && r.2.2.contains (pePos i)))

/-- R64, R68: what the tile-column controllers record when the tiles `ts` access a bit address at which the errors `fl` stand. -/
def State.eccOf (s : State) (fl : List Flip) (ts : BitVec 272) (addr : Nat) : State :=
  (flipRows (fl.filter (fun f => f.addr == addr)) addr).foldl (fun s r =>
    if !ts.getLsbD r.1 then s
    else
      let blk := bTCC + r.1 % 16
      let row := r.1 / 16
      let loc := row * 2 ^ 18 + r.2.1 * 2 ^ 12 + addr
      if r.2.2.length = 1 then
        let t := s.count blk row 1
        let t := if (s.reg blk 0x021).getLsbD 23 then t
          else (t.setReg blk 0x021 (BitVec.ofNat 24 loc)).setReg blk 0x022 (BitVec.ofNat 24 (r.2.2.headD 0))
        let lim := s.reg blk 0x023
        if lim != 0 && t.reg blk row == lim && s.reg blk row != lim then t.event 0x03 row .ok blk else t
      else
        let t := s.setReg blk 0x020 (s.reg blk 0x020 ||| BitVec.ofNat 24 (2 ^ row))
        let t := (t.setReg blk 0x021 (BitVec.ofNat 24 (2 ^ 23 + loc))).setReg blk 0x022 127
        t.report (.tile row (r.1 % 16))) s

/-- The same for an access to the memory as it stands. A cycle that reads and writes one bit-row counts one event (DESIGN CHOICE,
log entry 92). -/
def State.eccAccess (s : State) (ts : BitVec 272) (addr : Nat) : State := s.eccOf s.cv.flips ts addr

/-- The accesses to `n` bit addresses from `b` on. -/
def State.eccField (s : State) (ts : BitVec 272) (b n : Nat) : State :=
  (List.range n).foldl (fun s j => s.eccAccess ts (b + j)) s

/-- R62, R66: a write of `f` to an address in the PEs of `e`; `ts` are the executing tiles. -/
def Canvas.writePlane (c : Canvas) (ts : BitVec 272) (e : Plane) (addr : Nat) (f : Plane) : Canvas :=
  let here := c.flips.filter (fun x => x.addr == addr && ts.getLsbD x.tile)
  if here.isEmpty then { c with mem := pset c.mem addr (blend e f (pget c.mem addr)) }
  else
    let rows := (flipRows here addr).filter (fun r => 2 ≤ r.2.2.length &&
      !(List.range 64).all (fun p => e.getLsbD (peAt r.1 r.2.1 p)))
    let keep := rows.flatMap (fun r => [⟨r.1, r.2.1, addr, 64⟩, ⟨r.1, r.2.1, addr, 65⟩])
    { c with mem := pset c.mem addr (blend e f (blend (tilesPlane ts) (c.readPlane addr) (pget c.mem addr))),
             flips := c.flips.filter (fun x => !(x.addr == addr && ts.getLsbD x.tile)) ++ keep }

/-! ### Nano-word fields (R121) -/

def nRA0 (w : BitVec 128) : Nat := fld w 0 11
def nRE0 (w : BitVec 128) : Bool := w.getLsbD 11
def nRA1 (w : BitVec 128) : Nat := fld w 12 11
def nRE1 (w : BitVec 128) : Bool := w.getLsbD 23
def nWA (w : BitVec 128) : Nat := fld w 24 12
def nWE (w : BitVec 128) : Bool := w.getLsbD 36
def nTT (w : BitVec 128) : BitVec 8 := w.extractLsb' 37 8
def nCF (w : BitVec 128) : Nat := fld w 45 2
def nZS (w : BitVec 128) : Nat := fld w 47 3
def nZK (w : BitVec 128) : Nat := fld w 50 4
def nUC (w : BitVec 128) : Bool := w.getLsbD 54
def nUM (w : BitVec 128) : Bool := w.getLsbD 55
def nUG (w : BitVec 128) : Bool := w.getLsbD 56
def nUN (w : BitVec 128) : Bool := w.getLsbD 57
def nND (w : BitVec 128) : Nat := fld w 58 3
def nTAKE (w : BitVec 128) : Bool := w.getLsbD 61
def nPOST (w : BitVec 128) : Bool := w.getLsbD 62
def nOLD (w : BitVec 128) : Bool := w.getLsbD 63
def nOJ (w : BitVec 128) : Nat := fld w 64 4
def nFG (w : BitVec 128) : Nat := fld w 68 2
def nFGE (w : BitVec 128) : Bool := w.getLsbD 70
def nTCAP (w : BitVec 128) : Bool := w.getLsbD 71
def nRCAP (w : BitVec 128) : Bool := w.getLsbD 72
def nSLOT (w : BitVec 128) : Nat := fld w 73 2
def nWT (w : BitVec 128) : Bool := w.getLsbD 75
def nSTOP (w : BitVec 128) : Bool := w.getLsbD 76
def nLV (w : BitVec 128) : Bool := w.getLsbD 77
def nVALID (w : BitVec 128) : Bool := w.getLsbD 78
def nISN (w : BitVec 128) : BitVec 16 := w.extractLsb' 96 16

/-! ### One array cycle (R37) -/

/-- R39: the result plane of a truth table over X, Y and Z. -/
def ttPlane (tt : BitVec 8) (x y z : Plane) : Plane :=
  let m (b : Nat) (p : Plane) : Plane := if b = 1 then p else ~~~p
  (List.range 8).foldl (fun acc i =>
    if tt.getLsbD i then acc ||| (m (i / 4) x &&& m (i / 2 % 2) y &&& m (i % 2) z) else acc) 0

/-- The majority of three planes. -/
def majPlane (x y z : Plane) : Plane := (x &&& y) ||| (x &&& z) ||| (y &&& z)

/-- R40: the carry bit; code 3 is reserved and gives `any` (DESIGN CHOICE, log entry 61). -/
def carryPlane (cf : Nat) (x y z f any : Plane) : Plane :=
  if cf = 0 then majPlane x y z else if cf = 1 then majPlane x (~~~y) z else if cf = 2 then f else any

/-- The Z operand; codes 5 to 7 are reserved and give `any` (DESIGN CHOICE, log entry 61). -/
def zPlane (c : Canvas) (w : BitVec 128) (any : Plane) : Plane :=
  match nZS w with
  | 0 => c.c
  | 1 => c.n
  | 2 => c.g
  | 3 => c.m
  | 4 => pget c.inbox (nZK w)
  | _ => any

/-- R40, R121: a field of the word holds a reserved code. -/
def nReserved (w : BitVec 128) : Bool := nCF w = 3 || 5 ≤ nZS w || 5 ≤ nND w

/-- R77, R79: a POST in the PEs of `e`, with the overwritten entries counted. -/
def State.post (s : State) (e : Plane) : State :=
  let c := s.cv
  let p := e &&& c.m
  let overwritten := p &&& c.pending
  let mark := (List.range 48).foldl (fun m k =>
    pset m k (blend p (if s.postmark.getLsbD k then BitVec.allOnes numPE else 0) (pget m k))) c.mark
  let s1 := s.mapCv (fun c => { c with
    egress := blend16 p c.outbox c.egress, outbox := blend16 p [] c.outbox, pending := c.pending ||| p, mark := mark })
  (List.range 272).foldl (fun s t =>
    let k := popcount (tileGet overwritten t)
    if k = 0 then s else s.count (bTCC + t % 16) (0x080 + t / 16) k) s1

/-- R73, R75: a TAKE in the PEs of `e`. -/
def Canvas.take (c : Canvas) (e : Plane) : Canvas :=
  { c with inbox := blend16 e c.stage c.inbox, stage := blend16 e [] c.stage, written := blend16 e [] c.written }

/-- R37: the executing tiles `ts` carry out a word's own fields; what a reserved code selects is free (DESIGN CHOICE, log
entry 61). -/
def State.pe (s0 : State) (ts : BitVec 272) (w : BitVec 128) : State :=
  let e := tilesPlane ts
  let any := s0.freeBits numPE
  let s := if nReserved w then s0.drawn else s0
  let c := s.cv
  let x := if nRE0 w then c.readPlane (nRA0 w) else c.a
  let y := if nRE1 w then c.readPlane (2048 + nRA1 w) else c.b
  let z := zPlane c w any
  let f := ttPlane (nTT w) x y z
  let k := carryPlane (nCF w) x y z f any
  let s1 := if nRE0 w then s.eccAccess ts (nRA0 w) else s
  let s2 := if nRE1 w then s1.eccAccess ts (2048 + nRA1 w) else s1
  let wr := if nWE w then (if 2040 ≤ nWA w && nWA w ≤ 2047 then e else e &&& c.m) else 0
  let s3 := if nWE w && !((nRE0 w && nRA0 w == nWA w) || (nRE1 w && 2048 + nRA1 w == nWA w))
    then s2.eccAccess ts (nWA w) else s2
  let nn := if nND w = 0 then f else if nND w ≤ 4 then s.shifted c.n (nND w) else any
  let io := !nLV w
  let s4 := if io && nPOST w then s3.post e else s3
  let s5 := s4.mapCv (fun d => { d with
    a := blend e x c.a, b := blend e y c.b,
    c := if nUC w then blend e k c.c else c.c,
    m := if nUM w then blend e f c.m else c.m,
    g := if nUG w then blend (e &&& c.m) f c.g else c.g,
    n := if nUN w then blend e nn c.n else c.n })
  let s6 := if nWE w then s5.mapCv (fun d => d.writePlane ts wr (nWA w) f) else s5
  let s7 := if io && nTAKE w then s6.mapCv (fun d => d.take e) else s6
  if io && nOLD w then s7.mapCv (fun d => { d with outbox := pset d.outbox (nOJ w) (blend e f (pget d.outbox (nOJ w))) })
  else s7

/-! ### Side accesses -/

/-- One side access is made at its tile: a read takes the start-of-cycle value in `old` (R152), and its errors are those of the start
of the cycle (R64, R68). -/
def State.sideDo (s0 : State) (old : Canvas) (d : Side) : State :=
  let s := s0.eccOf old.flips (BitVec.ofNat 272 (2 ^ d.tile)) d.addr
  if d.write then
    s.mapCv (fun c => { c with
      mem := pset c.mem d.addr (tilePut (pget c.mem d.addr) d.tile d.data),
      flips := c.flips.filter (fun f => !(f.addr == d.addr && f.tile == d.tile)) })
  else
    s.mapCv (fun c => { c with
      sideDone := c.sideDone ++ [{ d with data := tileGet (old.readPlane d.addr) d.tile }] })

/-- R148 to R153: the side accesses of one cycle: for each tile of `ts`, the oldest waiting write and read, when the
cycle allows the kind and the word's own access does not hold the port. -/
def State.sides (s : State) (old : Canvas) (ts : BitVec 272) (w : BitVec 128) (wrOk rdOk : Bool) : State :=
  let go (s : State) (t : Nat) (wr : Bool) : State :=
    match s.cv.side.find? (fun d => d.tile == t && d.write == wr) with
    | none => s
    | some d =>
      let busy := nVALID w &&
        (if wr then nWE w else if d.addr < 2048 then nRE0 w else nRE1 w)
      if busy then s.count (bTCC + t % 16) 0x0A2 1
      else (s.mapCv (fun c => { c with side := c.side.erase d })).sideDo old d
  (ones ts).foldl (fun s t =>
    let s1 := if rdOk then go s t false else s
    if wrOk then go s1 t true else s1) s

/-! ### Reductions -/

/-- R102, R103: the G bits that reach the reductions of a cycle of world `wt`. -/
def State.contrib (s : State) (wt : Bool) : Plane := tilesPlane (s.liveTiles &&& s.worldTiles wt) &&& s.cv.g

/-- R116: the region OR map of a plane of contributions. -/
def State.regionMap (s : State) (p : Plane) : BitVec 256 :=
  bitsOf 256 (fun l =>
    match physTile s.cv.failed l with
    | some t => tileGet p t != 0
    | none => false)

/-- The reduction results of a cycle enter their pipelines; `gor` is the cycle's global OR. -/
def State.reduce (s : State) (t : Nat) (w : BitVec 128) (gor : Bool) (p : Plane) : State :=
  let v := nVALID w
  s.mapRed (fun r => { r with
    gor := ((t, nWT w, gor) :: r.gor).take 512,
    deliver := if v && nFGE w then r.deliver ++ [(t, nFG w, gor)] else r.deliver,
    region := if v && nRCAP w then r.region ++ [(t, s.regionMap p)] else r.region,
    tally := if v && nTCAP w then r.tally ++ [(t, nWT w, popcount p)] else r.tally })

/-- R107, R109: the GOR condition at issue cycle `t` for a context of world `wt`. -/
def State.gorAt (s : State) (t : Nat) (wt : Bool) : Bool :=
  match s.red.gor.find? (fun e => e.1 + 48 == t) with
  | some (_, sec, b) => b && (wt || !sec)
  | none => false

end Sys2Proof.Machine
end

