-- ==== Sys2Proof/Machine/Macros.lean ====
section
/-! DEFINITION. The array macros (R193 to R205, R283, R318 to R349): which operand fields each uses, when it is illegal or
misplaced, how many words it issues, and what each word of it does to the executing PEs. -/

namespace Sys2Proof.Machine

/-! ### Operand shape -/

/-- Format of an array opcode: 1, 2 or 3. -/
def afOf (op : Nat) : Nat := if 0x85 ≤ op && op ≤ 0x8A then 2 else if 0xB0 ≤ op && op ≤ 0xB2 then 3 else 1

/-- Which of ad, as1, as2, as3 and w an AF1 macro uses. -/
def af1Uses (op : Nat) : Bool × Bool × Bool × Bool × Bool :=
  if op = 0x83 || op = 0x84 || op = 0x91 then (true, true, false, false, true)
  else if op = 0x93 then (true, true, true, true, true)
  else if op = 0x94 || op = 0xC0 then (true, false, false, false, true)
  else if op = 0xA3 || op = 0xAB then (true, true, true, true, false)
  else if op = 0xA5 || op = 0xAD then (true, true, false, false, false)
  else if 0xA0 ≤ op && op ≤ 0xAE then (true, true, true, false, false)
  else if op = 0xAF then (true, true, false, false, true)
  else if op = 0xB8 || op = 0xBC || op = 0xBF then (false, true, false, false, false)
  else if op = 0xB9 || op = 0xC1 then (false, true, false, false, true)
  else if op = 0xC5 then (true, false, false, false, false)
  else if 0xBA ≤ op then (false, false, false, false, false)
  else (true, true, true, false, true)

/-- R743: the A8 bits an AF1 macro uses. -/
def a8Mask (op : Nat) : Nat :=
  if op = 0x92 || op = 0xAF then 0x0F
  else if op = 0x93 then 0xFF
  else if op = 0x94 then 0x3F
  else if op = 0x82 || op = 0xA6 || op = 0xAE then 0x07
  else if op = 0xC0 || op = 0xC1 || op = 0xC4 then 0x1F
  else if op = 0xC6 then 0x03
  else 0

/-- Whether a macro accepts a delivery byte (R201). -/
def takesD8 (op : Nat) : Bool := op = 0xB8 || op = 0xB9 || op = 0xBA || op = 0xBB

/-- R165, R199 to R201, R345, R743: the operand bits break the macro's format. -/
def macroIllegal (op : Nat) (w : BitVec 40) : Bool :=
  if afOf op = 2 then fld w 0 4 != 0
  else if afOf op = 3 then
    fld w 0 1 != 0 ||
    (if op = 0xB0 then fld w 1 5 != 0 || fld w 6 6 != 0
     else fld w 22 2 != 0 || fld w 12 10 != 0 || (op = 0xB2 && fld w 1 5 != 0))
  else
    let (ud, u1, u2, u3, uw) := af1Uses op
    let a8 := fA8 w
    (!ud && fAd w != 0) || (!u1 && fAs1 w != 0) || (!u2 && fAs2 w != 0) || (!u3 && fAs3 w != 0)
      || (!uw && fld w 16 8 != 0)
      || a8 % 256 != Nat.land a8 (a8Mask op)
      || (if takesD8 op then fD8 w % 8 != 0 else fD8 w != 0)
      || (op = 0x82 && 6 ≤ a8 % 8) || ((op = 0xA6 || op = 0xAE) && 5 ≤ a8 % 8)
      || (op = 0xAF && (10 ≤ a8 || (8 ≤ a8 && fld w 16 8 != 0)))
      || ((op = 0xC0 || op = 0xC1) && 16 < a8 % 16 + fW w)
      || (op = 0xC6 && a8 % 4 = 0)
      || (op = 0x94 && (24 < fW w || 48 ≤ a8 % 64))

/-- Bit width of the floating-point format of an opcode. -/
def fpWidth (op : Nat) : Nat := if op < 0xA8 then 32 else 64

/-- Source and destination widths of AFCVT (R198, R187). -/
def cvtWidths (k w : Nat) : Nat × Nat :=
  match k with
  | 0 => (w, 32) | 1 => (w, 32) | 2 => (w, 64) | 3 => (w, 64)
  | 4 => (32, w) | 5 => (32, w) | 6 => (64, w) | 7 => (64, w)
  | 8 => (32, 64) | _ => (64, 32)

/-- The source fields (register field, width), first source first, and the destination width if there is one. -/
def macroFields (op : Nat) (w : BitVec 40) : List (Nat × Nat) × Option Nat :=
  if afOf op = 2 then ([(fld w 24 4, fld w 16 8 + 1), (fld w 12 4, fld w 4 8 + 1)], some (fld w 28 8 + 1))
  else if afOf op = 3 then ([(fld w 32 4, fld w 24 8 + 1)], some (fld w 24 8 + 1))
  else
    let (ud, u1, u2, u3, _) := af1Uses op
    let cv := cvtWidths (fA8 w) (fW w)
    let sw := if op = 0xAF then cv.1 else if 0xA0 ≤ op && op ≤ 0xAE then fpWidth op
      else if op = 0xB8 || op = 0xBC || op = 0xBF then 1 else fW w
    let dw := if op = 0xAF then cv.2 else if op = 0x82 || op = 0xA6 || op = 0xAE then 1
      else if 0xA0 ≤ op && op ≤ 0xAE then fpWidth op else if op = 0xC5 then 5 else fW w
    ((if u1 then [(fAs1 w, sw)] else []) ++ (if u2 then [(fAs2 w, sw)] else []) ++ (if u3 then [(fAs3 w, sw)] else []),
     if ud then some dw else none)

/-- R47, R52: a field lies in the user area. -/
def inUser (b w : Nat) : Bool := b + w ≤ 1904 || (2048 ≤ b && b + w ≤ 3968)

def overlaps (b w b' w' : Nat) : Bool := b < b' + w' && b' < b + w

/-- The field bases of a macro, from the A registers. -/
def macroBases (q : Seq) (op : Nat) (w : BitVec 40) : List (Nat × Nat) :=
  (macroFields op w).1.map (fun e => ((aGet q e.1).toNat, e.2))

/-- The destination base. -/
def macroDest (q : Seq) (w : BitVec 40) : Nat := (aGet q (fAd w)).toNat

/-- The offsets of a stencil as the sorting office wrote them. -/
def stenOffset (q : Seq) (k j : Nat) : Int × Int :=
  let v := sget 0 q.sten (32 * k + j)
  ((v.extractLsb' 12 12).toInt, (v.extractLsb' 0 12).toInt)

def stenCount (q : Seq) (k : Nat) : Nat := (sget 0 q.stcnt k).toNat

/-- R46, R52, R203: the macro raises trap 0x0D before any word issues. -/
def macroMisplaced (q : Seq) (op : Nat) (w : BitVec 40) : Bool :=
  let srcs := macroBases q op w
  let dst := (macroFields op w).2
  srcs.any (fun e => !inUser e.1 e.2)
    || (match dst with | some dw => !inUser (macroDest q w) dw | none => false)
    || (match srcs with | a :: b :: _ => (2048 ≤ a.1) == (2048 ≤ b.1) | _ => false)
    || (op = 0xB1 && stenCount q (fld w 6 6) ≤ fld w 1 5)
    || (op = 0xB2 && stenCount q (fld w 6 6) = 0)

/-- R196: the destination overlaps a source in a way that leaves the result unpredictable. -/
def macroBad (q : Seq) (op : Nat) (w : BitVec 40) : Bool :=
  let elementWise := op = 0x80 || op = 0x81 || (0x91 ≤ op && op ≤ 0x94)
  match (macroFields op w).2 with
  | none => false
  | some dw =>
    let d := macroDest q w
    (macroBases q op w).any (fun e => overlaps d dw e.1 e.2 && !(elementWise && d == e.1 && dw == e.2))

/-- Whether R198 marks the macro's cycle count as arithmetic. -/
def isArith (op : Nat) : Bool := (0x80 ≤ op && op ≤ 0x90) || (0xA0 ≤ op && op ≤ 0xAF)

/-- R338: the smallest b with 2^b ≥ w. -/
def ceilLog (w : Nat) : Nat := if w ≤ 1 then 0 else Nat.log2 (w - 1) + 1

/-- Offsets a macro gathers: ASHIFT one along its direction, AGATH one, AGATHOR all (R202, R203, R284). -/
def macroOffs (q : Seq) (op : Nat) (w : BitVec 40) : List (Int × Int) :=
  let d : Int := fld w 12 10
  if op = 0xB0 then
    [match fld w 22 2 with | 0 => (0, -d) | 1 => (-d, 0) | 2 => (0, d) | _ => (d, 0)]
  else if op = 0xB1 then [stenOffset q (fld w 6 6) (fld w 1 5)]
  else if op = 0xB2 then (List.range (stenCount q (fld w 6 6))).map (stenOffset q (fld w 6 6))
  else []

/-- The cycle count of a macro of fixed timing (R198, R338, R343, R344). -/
def macroCycles (op : Nat) (w : BitVec 40) (offs : List (Int × Int)) : Nat :=
  let n := fW w
  let w1 := fld w 16 8 + 1
  let w2 := fld w 4 8 + 1
  let wd := fld w 28 8 + 1
  let b := ceilLog n
  if op = 0x84 then 2 * n + 3
  else if op ≤ 0x83 then n + 2
  else if op ≤ 0x86 then w2 * w1 + 2 * w2 + 3 + (wd - (w1 + w2))
  else if op ≤ 0x88 then w1 * (w2 + 3) + 4
  else if op ≤ 0x8A then w1 * w2 + 4 * w1 + w2 + 12
  else if op ≤ 0x8E then n * (b + 2) + (n - b) + 4
  else if op ≤ 0x90 then n * (b + 2) + 4 + (if 2 ^ b = n then 0 else n * (b + 3) + 4)
  else if op = 0x93 then 2 * n
  else if op ≤ 0x94 then n
  else if op ≤ 0xAE then
    let k := if op < 0xA8 then op - 0xA0 else op - 0xA8
    let one := (([236, 236, 720, 1012, 1490, 1560, 76] : List Nat)[k]?).getD 0
    let two := (([520, 520, 3060, 3710, 6890, 7240, 140] : List Nat)[k]?).getD 0
    if op < 0xA8 then one else two
  else if op = 0xAF then
    match fA8 w with
    | 0 => 3 * n + 120 | 1 => 3 * n + 120 | 2 => 3 * n + 210 | 3 => 3 * n + 210
    | 4 => 2 * n + 150 | 5 => 2 * n + 150 | 6 => 2 * n + 270 | 7 => 2 * n + 270
    | 8 => 140 | _ => 260
  else if op ≤ 0xB2 then (fld w 24 8 + 1) * (offs.map (fun o => o.1.natAbs + o.2.natAbs + 2)).sum
  else if op = 0xB9 then n + 1
  else if op = 0xBA then 4
  else if op = 0xC0 || op = 0xC1 then n
  else if op = 0xC4 then max 1 (popcount (BitVec.ofNat 5 (fA8 w)))
  else if op = 0xC5 then 5
  else 1

/-! ### Values in one PE -/

/-- The value of a bit field in PE `i`. -/
def fieldAt (c : Canvas) (b w i : Nat) : Nat :=
  ((List.range w).map (fun j => ((c.readPlane (b + j)).getLsbD i).toNat * 2 ^ j)).sum

/-- A w-bit value as a signed number. -/
def sgn (w x : Nat) : Int := if x < 2 ^ (w - 1) then x else (x : Int) - 2 ^ w

/-- The low w bits of a number. -/
def low (w : Nat) (i : Int) : Nat := (i % ((2 ^ w : Nat) : Int)).toNat

/-- R319 on the Canvas: result and whether V is 1, for opcodes 0x8B to 0x90 in order. -/
def canvasShift (k w x c : Nat) : Nat × Bool :=
  match k with
  | 0 => (if c < w then x * 2 ^ c % 2 ^ w else 0, false)
  | 1 => (if c < w then x / 2 ^ c else 0, false)
  | 2 => (low w (sgn w x / 2 ^ (min c w)), false)
  | 3 =>
    let top := x / 2 ^ (w - 1 - c)
    (if c < w then x * 2 ^ c % 2 ^ w else 0,
     if c = 0 then false else if c < w then !(top = 0 || top = 2 ^ (c + 1) - 1) else x != 0)
  | 4 => let r := c % w; (x * 2 ^ r % 2 ^ w + x / 2 ^ (w - r), false)
  | _ => let r := c % w; (x / 2 ^ r + x * 2 ^ (w - r) % 2 ^ w, false)

def flagIf (b : Bool) (f : BitVec 5) : BitVec 5 := if b then f else 0

/-- R318, R339: a divide or remainder, `k` 0 to 3 for ADIVU, AREMU, ADIVS, AREMS. -/
def canvasDiv (k w1 w2 wd x y : Nat) : Nat × BitVec 5 :=
  let sx := sgn w1 x
  let sy := sgn w2 y
  let edge := 2 ≤ k && x = 2 ^ (w1 - 1) && sy = -1
  if y = 0 then
    (if k % 2 = 0 then 2 ^ wd - 1 else if k = 1 then x % 2 ^ wd else low wd sx, fDZ)
  else
    let q : Int := if k < 2 then (x / y : Nat) else if edge then sx else sx.tdiv sy
    let r : Int := if k < 2 then (x % y : Nat) else if edge then 0 else sx.tmod sy
    (low wd (if k % 2 = 0 then q else r), flagIf edge fOF)

/-- R199: the comparison of ACMP. -/
def canvasCmp (cc w x y : Nat) : Bool :=
  match cc with
  | 0 => x == y | 1 => x != y | 2 => x < y | 3 => y ≤ x | 4 => sgn w x < sgn w y | _ => sgn w y ≤ sgn w x

/-- R199, R330: the comparison of AFCMP. -/
def canvasFcmp (cc : Nat) (o : Cmp) : Bool :=
  match cc with
  | 0 => o == .equal | 1 => o != .equal | 2 => o == .less | 3 => o == .less || o == .equal | _ => o == .unordered

/-- R187, R331, R332: AFCVT of code `k` with integer width `w`. -/
def canvasCvt (rm k w x : Nat) : Fr :=
  match k with
  | 0 => fromInt f32 rm (sgn w x)
  | 1 => fromInt f32 rm x
  | 2 => fromInt f64 rm (sgn w x)
  | 3 => fromInt f64 rm x
  | 4 => toIntFv rm true w (unpack f32 x)
  | 5 => toIntFv rm false w (unpack f32 x)
  | 6 => toIntFv rm true w (unpack f64 x)
  | 7 => toIntFv rm false w (unpack f64 x)
  | 8 => convFv f64 rm (unpack f32 x)
  | _ => convFv f32 rm (unpack f64 x)

/-- The arithmetic result of a macro in one PE: destination value and flags raised (R346). -/
def arith (m : Macro) (x y z : Nat) : Nat × BitVec 5 :=
  let w := fW m.word
  let w1 := fld m.word 16 8 + 1
  let w2 := fld m.word 4 8 + 1
  let wd := fld m.word 28 8 + 1
  let op := m.op
  if op = 0x80 then ((x + y) % 2 ^ w, 0)
  else if op = 0x81 then (low w ((x : Int) - y), 0)
  else if op = 0x82 then ((canvasCmp (fA8 m.word) w x y).toNat, 0)
  else if op = 0x83 then (low w (-(x : Int)), flagIf (x = 2 ^ (w - 1)) fOF)
  else if op = 0x84 then (low w ((sgn w x).natAbs : Int), flagIf (x = 2 ^ (w - 1)) fOF)
  else if op = 0x85 then (x * y % 2 ^ wd, 0)
  else if op = 0x86 then (low wd (sgn w1 x * sgn w2 y), 0)
  else if op ≤ 0x8A then canvasDiv (op - 0x87) w1 w2 wd x y
  else if op ≤ 0x90 then let r := canvasShift (op - 0x8B) w x y; (r.1, flagIf r.2 fOF)
  else if op = 0xA6 || op = 0xAE then
    let f := if op = 0xA6 then f32 else f64
    ((canvasFcmp (fA8 m.word) (cmpFv (unpack f x) (unpack f y))).toNat, cmpFlags (unpack f x) (unpack f y))
  else if op = 0xAF then let r := canvasCvt m.rm (fA8 m.word) w x; (r.bits, r.flags)
  else if op < 0xA8 then let r := fpOp f32 m.rm (op - 0xA0) x y z; (r.bits, r.flags)
  else let r := fpOp f64 m.rm (op - 0xA8) x y z; (r.bits, r.flags)

/-! ### Motion (R202, R203, R54 to R58) -/

/-- The hops from a source PE to its destination, offset (dx, dy) of the source from the destination: x first or y
first. Each element is a logical position from the source on. -/
def hopPath (h : Nat) (xFirst : Bool) (x y : Nat) (dx dy : Int) : List (Nat × Nat) :=
  let wrapX (k : Int) : Nat := (((x : Int) + k) % 1024).toNat
  let wrapY (k : Int) : Nat := (((y : Int) + k) % (h : Int)).toNat
  let stepsX := (List.range (dx.natAbs + 1)).map (fun (i : Nat) => if 0 ≤ dx then dx - (i : Int) else dx + (i : Int))
  let stepsY := (List.range (dy.natAbs + 1)).map (fun (i : Nat) => if 0 ≤ dy then dy - (i : Int) else dy + (i : Int))
  if xFirst then stepsX.map (fun k => (wrapX k, wrapY dy)) ++ (stepsY.drop 1).map (fun k => (wrapX 0, wrapY k))
  else stepsY.map (fun k => (wrapX dx, wrapY k)) ++ (stepsX.drop 1).map (fun k => (wrapX k, wrapY 0))

/-- Whether a bit arrives along a path: no hop leaves a tile that is not executing, or a secure tile for a non-secure
one. -/
def State.pathOpen (s : State) (ts : BitVec 272) (p : List (Nat × Nat)) : Bool :=
  match p with
  | a :: b :: r =>
    (match pePhys s.cv.failed a.1 a.2, pePhys s.cv.failed b.1 b.2 with
     | some i, some j => ts.getLsbD (peTile i) && !(s.physWorld (peTile i) && !s.physWorld (peTile j))
     | _, _ => false) && s.pathOpen ts (b :: r)
  | _ => true

/-- The value a gather of offset (dx, dy) delivers to PE `i`; a bit that only one of the two orders of the hops would
bring is free (DESIGN CHOICE, log entry 16). -/
def State.gathered (s : State) (ts : BitVec 272) (b w : Nat) (o : Int × Int) (fr : Plane) (i : Nat) : Nat :=
  match peLogY s.cv.failed i with
  | none => 0
  | some y =>
    let h := height s.cv.failed
    let x := i % 1024
    let sx := (((x : Int) + o.1) % 1024).toNat
    let sy := (((y : Int) + o.2) % (h : Int)).toNat
    match pePhys s.cv.failed sx sy with
    | none => 0
    | some j =>
      let v := fieldAt s.cv b w j
      let p1 := s.pathOpen ts (hopPath h true x y o.1 o.2)
      let p2 := s.pathOpen ts (hopPath h false x y o.1 o.2)
      if p1 && p2 then v else if !p1 && !p2 then 0 else if fr.getLsbD i then v else 0

/-! ### Words -/

/-- Writes a field in the PEs of `e` within the tiles `ts`. -/
def State.putField (s : State) (ts : BitVec 272) (e : Plane) (b w : Nat) (val : Nat → Nat) : State :=
  (List.range w).foldl (fun s j =>
    (s.eccAccess ts (b + j)).mapCv (fun c => c.writePlane ts e (b + j) (planeOf (fun i => (val i).testBit j)))) s

/-- R48, R49: sets flag-slot bits where raised. -/
def State.putFlags (s : State) (ts : BitVec 272) (e : Plane) (fl : Nat → BitVec 5) : State :=
  (List.range 5).foldl (fun s k =>
    let p := e &&& planeOf (fun i => (fl i).getLsbD k)
    if p = 0 then s
    else (s.eccAccess ts (1904 + k)).mapCv (fun c => c.writePlane ts p (1904 + k) (BitVec.allOnes numPE))) s

/-- A field takes free values in the PEs of `e` (R196, R276, R278). -/
def State.freeField (s : State) (ts : BitVec 272) (e : Plane) (b w : Nat) : State :=
  (List.range w).foldl (fun s j =>
    (s.drawn.eccAccess ts (b + j)).mapCv (fun c => c.writePlane ts e (b + j) (s.freeBits numPE))) s

/-- R49: some flags of the slot, free ones, are set in the PEs of `e`. -/
def State.freeFlags (s : State) (ts : BitVec 272) (e : Plane) : State :=
  (List.range 5).foldl (fun s k =>
    (s.drawn.eccAccess ts (1904 + k)).mapCv (fun c =>
      c.writePlane ts (e &&& s.freeBits numPE) (1904 + k) (BitVec.allOnes numPE))) s

/-- R53: the scratch of a level holds free values in the PEs of `e`. The accesses of a ROM routine to its scratch are not printed, so
they meet no error (DESIGN CHOICE, log entry 92). -/
def State.freeScratch (s : State) (e : Plane) (level : Bool) : State :=
  let base := if level then 64 else 0
  ((List.range 64).flatMap (fun j => [1912 + base + j, 3968 + base + j])).foldl (fun s a =>
    s.drawn.mapCv (fun c => { c with mem := pset c.mem a (blend e (s.freeBits numPE) (pget c.mem a)) })) s

/-- R197: A, B, C and N are unpredictable in the executing PEs. -/
def State.freeABCN (s : State) (e : Plane) : State :=
  let t := s.drawn.drawn.drawn.drawn
  t.mapCv (fun c => { c with
    a := blend e (s.freeBits numPE) c.a, b := blend e (s.drawn.freeBits numPE) c.b,
    c := blend e (s.drawn.drawn.freeBits numPE) c.c, n := blend e (s.drawn.drawn.drawn.freeBits numPE) c.n })

/-- Destination field of a macro: base and width. -/
def Macro.dest (m : Macro) : Option (Nat × Nat) := (macroFields m.op m.word).2.map (fun w => (m.bd, w))

/-- The fields a macro reads: its sources, and the flag slot for AFMOV. -/
def Macro.sources (m : Macro) : List (Nat × Nat) :=
  ([m.b1, m.b2, m.b3].zip ((macroFields m.op m.word).1.map Prod.snd)) ++ (if m.op = 0xC5 then [(1904, 5)] else [])

/-- R64, R68: the reads of a macro's sources, one access for each bit-row (DEDUCED, log entry 5). -/
def State.eccReads (s : State) (ts : BitVec 272) (m : Macro) : State :=
  m.sources.foldl (fun s e => s.eccField ts e.1 e.2) s

/-- R196, R276: an unpredictable result is free: the destination, or the register or outbox bit that word `i` writes, and the flags that an
arithmetic macro sets (DESIGN CHOICE, log entry 115). -/
def State.spoiledWord (s : State) (ts : BitVec 272) (m : Macro) (i : Nat) : State :=
  let e := tilesPlane ts
  let any := s.freeBits numPE
  let k := fA8 m.word % 16 + (i - 1)
  if m.op = 0xC0 then s.freeField ts (e &&& s.cv.m) (m.bd + (i - 1)) 1
  else if m.op = 0xC1 then
    if m.level then s else s.drawn.mapCv (fun d => { d with outbox := pset d.outbox k (blend e any (pget d.outbox k)) })
  else if m.op = 0xB8 || m.op = 0xB9 then s.drawn.mapCv (fun d => { d with g := blend (e &&& d.m) any d.g })
  else if m.op = 0xBC || m.op = 0xBF then s.drawn.mapCv (fun d => { d with m := blend e any d.m })
  else match m.dest with
    | some (b, w) =>
      let t := s.freeField ts (e &&& s.cv.m) b w
      if isArith m.op then t.freeFlags ts (e &&& s.cv.m) else t
    | none => s

/-- R276: the whole result of a spoiled macro whose words came from the patch RAM. -/
def State.spoiledWhole (s : State) (ts : BitVec 272) (m : Macro) : State :=
  (List.range (if m.op = 0xC0 || m.op = 0xC1 then fW m.word else 1)).foldl (fun s i => s.spoiledWord ts m (i + 1)) s

/-- The destination of a macro, written at its last word. -/
def State.macroResult (s : State) (ts : BitVec 272) (m : Macro) : State :=
  let e := tilesPlane ts &&& s.cv.m
  let c := s.cv
  let op := m.op
  let ws := (macroFields op m.word).1.map Prod.snd
  let v (b k i : Nat) : Nat := match ws[k]? with | some w => fieldAt c b w i | none => 0
  let x := v m.b1 0
  let y := v m.b2 1
  let z := v m.b3 2
  let w := fW m.word
  if isArith op then
    let r (i : Nat) := arith m (x i) (y i) (z i)
    match m.dest with
    | some (b, dw) => (s.putField ts e b dw (fun i => (r i).1)).putFlags ts e (fun i => (r i).2)
    | none => s
  else if op = 0x91 then s.putField ts e m.bd w x
  else if op = 0x92 then s.putField ts e m.bd w (fun i =>
    ((List.range w).map (fun j =>
      ((fA8 m.word).testBit (2 * ((x i).testBit j).toNat + ((y i).testBit j).toNat)).toNat * 2 ^ j)).sum)
  else if op = 0x93 then s.putField ts e m.bd w (fun i =>
    ((List.range w).map (fun j =>
      ((fA8 m.word).testBit (4 * ((x i).testBit j).toNat + 2 * ((y i).testBit j).toNat + ((z i).testBit j).toNat)).toNat
        * 2 ^ j)).sum)
  else if op = 0x94 then s.putField ts e m.bd w (fun _ => m.cast.toNat % 2 ^ w)
  else if op = 0xB0 || op = 0xB1 || op = 0xB2 then
    let fr := s.freeBits numPE
    let n := fld m.word 24 8 + 1
    s.drawn.putField ts e m.bd n (fun i =>
      (m.offs.map (fun o => s.gathered ts m.b1 n o fr i)).foldl Nat.lor 0)
  else if op = 0xC5 then s.putField ts e m.bd 5 (fun i => fieldAt c 1904 5 i)
  else s

/-- R199 to R205: what word `i` of `total` of a macro does to the executing tiles, its result written by the last (DEDUCED, log
entry 5). -/
def State.macroEffect (s : State) (ts : BitVec 272) (m : Macro) (i total : Nat) (spoiled : Bool) : State :=
  let e := tilesPlane ts
  let c := s.cv
  let op := m.op
  let k := fA8 m.word % 16
  if spoiled && (op = 0xC0 || op = 0xC1 || i = total) then
    let t := s.spoiledWord ts m i
    if op = 0xC0 && i = total && (fA8 m.word).testBit 4 && !m.level then t.mapCv (fun d => d.take e)
    else if op = 0xC1 && i = 1 && (fA8 m.word).testBit 4 && !m.level then s.post e |>.spoiledWord ts m i
    else t
  else if op = 0xC0 then
    let t := s.putField ts (e &&& c.m) (m.bd + (i - 1)) 1 (fun j => ((pget c.inbox (k + (i - 1))).getLsbD j).toNat)
    if i = total && (fA8 m.word).testBit 4 && !m.level then t.mapCv (fun d => d.take e) else t
  else if op = 0xC1 then
    if m.level then s
    else
      let t := if i = 1 && (fA8 m.word).testBit 4 then s.post e else s
      t.mapCv (fun d => { d with
        outbox := pset d.outbox (k + (i - 1)) (blend e (c.readPlane (m.b1 + (i - 1))) (pget d.outbox (k + (i - 1)))) })
  else if op = 0xC2 then if m.level then s else s.mapCv (fun d => d.take e)
  else if op = 0xC3 then if m.level then s else s.post e
  else if op = 0xC4 then
    match (ones (BitVec.ofNat 5 (fA8 m.word)))[i - 1]? with
    | some f => (s.eccAccess ts (1904 + f)).mapCv (fun d => d.writePlane ts (e &&& c.m) (1904 + f) 0)
    | none => s
  else if i < total then s
  else if op = 0xB8 then s.mapCv (fun d => { d with g := blend (e &&& c.m) (c.readPlane m.b1) d.g })
  else if op = 0xB9 then
    s.mapCv (fun d => { d with
      g := blend (e &&& c.m) ((List.range (fW m.word)).foldl (fun p j => p ||| c.readPlane (m.b1 + j)) 0) d.g })
  else if op = 0xBA then s.mapCv (fun d => { d with g := blend e 0 d.g })
  else if op = 0xBC then s.mapCv (fun d => { d with m := blend e (c.readPlane m.b1) d.m })
  else if op = 0xBD then s.mapCv (fun d => { d with m := blend e (BitVec.allOnes numPE) d.m })
  else if op = 0xBE then s.mapCv (fun d => { d with m := blend e (~~~c.m) d.m })
  else if op = 0xBF then s.mapCv (fun d => { d with m := blend e (c.m &&& c.readPlane m.b1) d.m })
  else if m.bad then s.spoiledWord ts m i
  else s.macroResult ts m

/-- A macro's word `i` of `total`: its effect, and what R197 leaves unpredictable: A, B, C and N after any word, AGDLV's included
(DESIGN CHOICE, log entry 93), and from the first to the last the scratch of its level (R53). The last word also carries the errors
that the reads of the sources meet. -/
def State.macroWord (s : State) (ts : BitVec 272) (m : Macro) (i total : Nat) (spoiled : Bool) : State :=
  let e := tilesPlane ts
  let t := ((if i = total then s.eccReads ts m else s).macroEffect ts m i total spoiled).freeABCN e
  if i = 1 || i = total then t.freeScratch e m.level else t

/-- Whether the global OR of a macro's word before its last is known: its words leave no room to change G (R293). -/
def gorKnown (op : Nat) : Bool :=
  op = 0x91 || op = 0x92 || op = 0x94 || op = 0xC0 || op = 0xC1 || op = 0xC4 || op = 0xC5

end Sys2Proof.Machine
end

