-- ==== Sys2Proof/Machine/Images.lean ====
section
/-! DEFINITION. The images a host or the flash delivers: their checks in the order the spec gives, and what they hold.
Firmware (R663), microcode patch (R303), Tweed image (R417), array program (R215), channel map (R445), provisioning bundle
(R657). -/

namespace Sys2Proof.Machine

/-! ### Shared pieces -/

/-- R744: REVMASK names this device's revision and no bit beyond A0 and A1. -/
def revOk (m : Nat) : Bool := m < 4 && m.testBit Config.revA1.toNat

/-- Bytes `off` to `off + n - 1` are 0. -/
def zeros (b : List Byte) (off n : Nat) : Bool := ((b.drop off).take n).all (· == 0)

/-- The message an image's signature covers: the digest of every byte before SIG. -/
def sigMessage (b : List Byte) : List Byte := digestBytes (Config.sha512 (b.take (b.length - 64)))

/-- The last 64 bytes of an image, as its signature, verify with a key. -/
def sigOk (key : BitVec 256) (b : List Byte) : Bool :=
  Config.edVerify key (sigMessage b) (BitVec.ofNat 512 (leAt b (b.length - 64) 64))

/-- The status of the first check that fails, each given with its status; OK when none does. -/
def firstFailure (l : List (Bool × Status)) : Status :=
  match l with
  | [] => .ok
  | (good, st) :: r => if good then firstFailure r else st

/-- Whether spans (start, length) overlap nowhere; an empty span overlaps nothing, wherever it starts (DEDUCED, log entry 98). -/
def disjointSpans (l : List (Nat × Nat)) : Bool :=
  match l with
  | [] => true
  | (a, n) :: r => r.all (fun e => a + n ≤ e.1 || e.1 + e.2 ≤ a || n == 0 || e.2 == 0) && disjointSpans r

/-- A 2-byte field as a signed number. -/
def signed16 (n : Nat) : Int := (BitVec.ofNat 16 n).toInt

/-! ### Firmware (R663, R664) -/

/-- The checks of R664 in its order. -/
def firmwareCheck (o : Otp) (b : List Byte) : Status :=
  let key := leAt b 9 1
  firstFailure
    [(96 ≤ b.length && leAt b 0 4 == 0x57465156, .badParameter),
     (leAt b 4 2 == 1, .versionMismatch),
     (b.length ≤ 2097152 && b.length == 96 + leAt b 0x0C 4 && leAt b 0x0C 4 % 4 == 0, .badParameter),
     (zeros b 0x0A 2 && zeros b 0x10 16, .badParameter),
     (key < 4 && !o.revokedFw.contains key, .badSignature),
     (sigOk (Config.fwKey key) b, .badSignature),
     (revOk (leAt b 8 1), .versionMismatch),
     (o.minFw ≤ leAt b 6 2, .versionMismatch)]

/-- M_FW (R665): the digest that the check computed. -/
def firmwareDigest (b : List Byte) : BitVec 512 := Config.sha512 (b.take (b.length - 64))

/-! ### Microcode patch (R303 to R306) -/

/-- The counts m, u and n of a blob. -/
def patchCounts (b : List Byte) : Nat × Nat × Nat := (leAt b 0x0D 1, leAt b 0x0E 2, leAt b 0x10 2)

/-- A blob read into its parts. -/
def patchOf (b : List Byte) : Patch :=
  let (m, u, n) := patchCounts b
  let entry (i : Nat) : PatchMatch :=
    let o := 0x20 + 8 * i
    { index := leAt b (o + 6) 1, mtch := leAt b o 2, target := leAt b (o + 2) 2, resume := leAt b (o + 4) 2 }
  { format := leAt b 4 2, svn := leAt b 6 2, id := leAt b 8 4,
    matches_ := (List.range m).map entry,
    uwords := (List.range u).map (fun i => BitVec.ofNat 40 (leAt b (0x20 + 8 * m + 8 * i) 5)),
    nwords := (List.range n).map (fun i => BitVec.ofNat 78 (leAt b (0x20 + 8 * m + 8 * u + 16 * i) 16)),
    digest := Config.sha512 (b.take (b.length - 64)) }

/-- R304: a match entry of a patch with `u` micro-words. -/
def matchOk (u : Nat) (e : PatchMatch) : Bool := e.mtch < 16384 && e.target < u && e.resume < 16384 && e.index < 32

/-- R285, R286, R290: micro-word `i` of a patch with `u` micro-words and `n` nano-words. -/
def uwordOk (u n i : Nat) (w : BitVec 40) : Bool :=
  let sq := fld w 37 3
  let ofs := fld w 29 8
  let c := ofs / 64
  let target (bits : Nat) : Bool :=
    let t := (i : Int) + (BitVec.ofNat bits ofs).toInt
    0 ≤ t && t < u
  fld w 0 13 < 4096 + n && fld w 13 3 ≤ 4 && fld w 16 3 ≤ 4 && fld w 19 3 ≤ 4
    && (if sq = 0 || sq = 5 || sq = 6 then ofs == 0
        else if sq = 1 then c != 3 && target 6
        else if sq = 2 then c != 3 && (ofs.testBit 5 || (ofs / 4 % 8 == 0 && ofs % 4 != 3))
        else if sq = 3 then target 8
        else if sq = 4 then c != 3 && c != 2 && target 6
        else false)

/-- R124. -/
def nwordOk (w : BitVec 78) : Bool :=
  fld w 45 2 != 3 && fld w 47 3 ≤ 4 && fld w 58 3 ≤ 4 && !w.getLsbD 75 && !w.getLsbD 77

/-- Reserved bytes of a blob: header, match entries, and the unused bits of its words. -/
def patchReserved (b : List Byte) : Bool :=
  let (m, u, n) := patchCounts b
  leAt b 8 4 < 2 ^ 24 && zeros b 0x13 13
    && (List.range m).all (fun i => zeros b (0x20 + 8 * i + 7) 1)
    && (List.range u).all (fun i => zeros b (0x20 + 8 * m + 8 * i + 5) 3)
    && (List.range n).all (fun i => leAt b (0x20 + 8 * m + 8 * u + 16 * i) 16 < 2 ^ 78)

/-- The checks of R306 in its order. -/
def patchCheck (o : Otp) (b : List Byte) : Status :=
  let (m, u, n) := patchCounts b
  let p := patchOf b
  let key := leAt b 0x12 1
  let rev := leAt b 0x0C 1
  firstFailure
    [(96 ≤ b.length && b.length == 96 + 8 * m + 8 * u + 16 * n && m ≤ 32 && u ≤ 1024 && n ≤ 512
        && leAt b 0 4 == 0x504D5156, .badParameter),
     (p.format == 1 || p.format == 2, .versionMismatch),
     (key < 4 && !o.revokedPatch.contains key && sigOk (Config.patchKey key) b, .badSignature),
     ((if p.format = 1 then rev == 0 else revOk rev) && o.minPatch ≤ p.svn, .versionMismatch),
     (patchReserved b && p.matches_.all (matchOk u) && distinct (p.matches_.map (·.index))
        && (p.uwords.zipIdx).all (fun e => uwordOk u n e.2 e.1) && p.nwords.all nwordOk, .badParameter)]

/-! ### Tweed image (R417 to R420, R425) -/

/-- Regions named by an image. -/
def tweedRegions (b : List Byte) : List Nat := ones (BitVec.ofNat 16 (leAt b 0x0E 2))
def tweedSigned (b : List Byte) : Bool := (leAt b 6 2).testBit 0
def tweedFbpins (b : List Byte) : Bool := (leAt b 6 2).testBit 1
/-- Regions an image marks non-critical; none under format 1. -/
def tweedNoncrit (b : List Byte) (r : Nat) : Bool := leAt b 4 2 == 2 && (leAt b 0x10 2).testBit r
def tweedFrames (b : List Byte) : Nat := 3584 * (tweedRegions b).length

/-- Where frame `i` of an image begins, and its region and index under R420. -/
def frameAt (i : Nat) : Nat := 0x60 + 528 * i
def frameAddr (b : List Byte) (i : Nat) : Nat × Nat := (((tweedRegions b)[i / 3584]?).getD 0, i % 3584)
/-- The configuration bits of frame `i`. -/
def frameData (b : List Byte) (i : Nat) : BitVec 4096 := BitVec.ofNat 4096 (leAt b (frameAt i + 16) 512)

/-- Steps 1 to 3 of R425, in their order. -/
def tweedHeader (o : Otp) (sigReq : Bool) (b : List Byte) : Status :=
  let sgn := tweedSigned b
  let key := leAt b 0x0D 1
  firstFailure
    [(96 ≤ b.length && leAt b 0 4 == 0x49445754 && leAt b 6 2 < 4 && (sgn || key == 0) && leAt b 0x0E 2 != 0
        && (leAt b 4 2 != 1 || leAt b 0x10 2 == 0) && zeros b 0x12 14
        && b.length == 96 + 528 * tweedFrames b + (if sgn then 64 else 0), .badParameter),
     ((leAt b 4 2 == 1 || leAt b 4 2 == 2) && leAt b 8 4 == 0x7700 && revOk (leAt b 0x0C 1), .versionMismatch),
     ((sgn || !sigReq)
        && (!sgn || (key < 4 && o.tweedKeys.any (fun e => e.1 == key) && !o.revokedTweed.contains key)), .badSignature)]

/-- Steps 5 and 6 of R425 for frame `i`. Step 7 needs the fabric's multiplexer map, which the spec does not print. -/
def frameCheck (b : List Byte) (i : Nat) (oneHot : Bool) : Status :=
  let o := frameAt i
  let (r, k) := frameAddr b i
  firstFailure
    [(leAt b o 4 == k + 4096 * r && zeros b (o + 8) 8, .badParameter),
     (leAt b (o + 4) 4 == (crc32 ((b.drop o).take 4 ++ (b.drop (o + 16)).take 512)).toNat, .badFrame),
     (!(1 ≤ k && k ≤ 2431) || oneHot, .multidrive)]

/-- Steps 8 and 9. -/
def tweedFinal (o : Otp) (b : List Byte) : Status :=
  let n := 528 * tweedFrames b
  firstFailure
    [((Config.sha512 ((b.drop 0x60).take n)).toNat == leAt b 0x20 64, .integrity),
     (!tweedSigned b || sigOk (sget 0 o.tweedKeys (leAt b 0x0D 1)) b, .badSignature)]

/-- R420: the measurement of a Tweed image: every byte before SIG. -/
def tweedDigest (b : List Byte) : BitVec 512 := Config.sha512 (b.take (0x60 + 528 * tweedFrames b))

/-! ### Array program (R215 to R219) -/

/-- A section descriptor (R216). -/
structure Section where
  kind : Nat
  off : Nat
  size : Nat
  addr : Nat
  deriving DecidableEq, Repr

/-- The descriptors of a program image. -/
def progSections (b : List Byte) : List Section :=
  (List.range (leAt b 0x0E 2)).map (fun i =>
    let o := 0x80 + 16 * i
    { kind := leAt b o 2, off := leAt b (o + 4) 4, size := leAt b (o + 8) 4, addr := leAt b (o + 12) 4 })

/-- The contents of the first section of a type; empty when there is none. -/
def progSection (b : List Byte) (kind : Nat) : List Byte :=
  match (progSections b).find? (fun x => x.kind == kind) with
  | some x => (b.drop x.off).take x.size
  | none => []

def progCount (b : List Byte) (kind : Nat) : Nat := ((progSections b).filter (fun x => x.kind == kind)).length

/-- A stencil as declared (R448): number, hop budget, SAMEREGION, mask plane addresses, offsets. -/
structure Stencil where
  k : Nat
  hops : Nat
  same : Bool
  mem : Nat
  sel : Nat
  offs : List (Int × Int)
  deriving DecidableEq, Repr

/-- The entries of a STENCIL section, at most `fuel`; none where an entry breaks R448. -/
def stencilsOf (fuel : Nat) (b : List Byte) : Option (List Stencil) :=
  match fuel with
  | 0 => if b.isEmpty then some [] else none
  | f + 1 =>
    if b.isEmpty then some []
    else
      let c := leAt b 1 1
      if b.length < 8 + 4 * c || 64 ≤ leAt b 0 1 || c = 0 || 32 < c || leAt b 2 1 = 0 || 2 ≤ leAt b 3 1 then none
      else
        let x : Stencil :=
          { k := leAt b 0 1, hops := leAt b 2 1, same := leAt b 3 1 == 1, mem := leAt b 4 2, sel := leAt b 6 2,
            offs := (List.range c).map (fun j => (signed16 (leAt b (8 + 4 * j) 2), signed16 (leAt b (10 + 4 * j) 2))) }
        (stencilsOf f (b.drop (8 + 4 * c))).map (x :: ·)

/-- The stencils of a section; none where it breaks R448. -/
def stencilSection (b : List Byte) : Option (List Stencil) :=
  match stencilsOf 65 b with
  | some l => if distinct (l.map (·.k)) then some l else none
  | none => none

/-- The addresses of a KEPT section (R217). -/
def keptSection (b : List Byte) : List Nat := (List.range (leAt b 0 2)).map (fun i => leAt b (2 + 2 * i) 2)
def keptOk (b : List Byte) : Bool :=
  b.length == 2 + 2 * leAt b 0 2 && leAt b 0 2 ≤ 64 && distinct (keptSection b)

/-- An entry of an ENERGY section (R515). -/
structure Energy where
  id : Nat
  variant : Bool
  cpSpill : Nat
  cpOff : Nat
  ref : Nat
  first : Nat
  last : Nat
  passes : Nat
  cyc : List Nat
  deriving DecidableEq, Repr

/-- The entries of an ENERGY section. -/
def energySection (b : List Byte) : List Energy :=
  (List.range (b.length / 52)).map (fun i =>
    let o := 52 * i
    { id := leAt b o 2, variant := (leAt b (o + 2) 2).testBit 0, cpSpill := leAt b (o + 4) 1, cpOff := leAt b (o + 5) 1,
      ref := leAt b (o + 6) 2, first := leAt b (o + 8) 4, last := leAt b (o + 12) 4, passes := leAt b (o + 16) 4,
      cyc := (List.range 8).map (fun c => leAt b (o + 20 + 4 * c) 4) })

/-- R578, R579: the committed image of a kind, from the lower stack of its pair while that is in service, else from the other. -/
def State.committedImage (s : State) (k : Nat) : List Byte := sget [] (if s.lost 0 then s.sys.mirrored else s.sys.committed) k

/-- Firmware keeps an image as the committed one of its kind, in both stacks. -/
def State.keepImage (s : State) (k : Nat) (b : List Byte) : State :=
  s.mapSys (fun y => { y with committed := sput [] y.committed k b, mirrored := sput [] y.mirrored k b })

/-- The energy section of the committed program. -/
def State.energies (s : State) : List Energy := energySection (progSection (s.committedImage 3) 5)

/-- The index of the full section whose range holds an address. -/
def sectionAt (es : List Energy) (pc : Nat) : Option Nat := es.findIdx? (fun e => e.first ≤ pc && pc ≤ e.last)

/-- R507: the PC has entered the section that holds it, if one does, in the run. -/
def State.enterSection (s : State) : State :=
  if s.sys.mode ≠ .run then s
  else match sectionAt s.energies s.seq.pc.toNat with
    | some i => s.mapFrk (fun f => { f with section_ := some i })
    | none => s

/-- R515: the conditions on the entries. -/
def energyOk (b : List Byte) : Bool :=
  let es := energySection b
  b.length % 52 == 0
    && (List.range (b.length / 52)).all (fun i => leAt b (52 * i + 2) 2 < 2)
    && es.all (fun e => e.cpSpill ≤ 2 && e.cpOff ≤ 2 && e.first ≤ e.last && e.last < 2 ^ 18
        && (if e.variant then es.any (fun f => f.id == e.ref && !f.variant) else e.ref == 0))
    && distinct (es.map (·.id)) && distinct ((es.filter (·.variant)).map (·.ref))
    && disjointSpans (es.map (fun e => (e.first, e.last + 1 - e.first)))

/-- R218: the SECURE section. -/
def gateWord (b : List Byte) (i : Nat) : Word := BitVec.ofNat 24 (leAt b (16 + 4 * i) 4)
def secureOk (b : List Byte) : Bool :=
  b.length == 80 && leAt b 0 4 < 2 ^ 19 && leAt b 4 4 < 2 ^ 19 && leAt b 8 4 < 2 ^ 10 && leAt b 12 4 < 2 ^ 16
    && (List.range 16).all (fun i =>
        let g := leAt b (16 + 4 * i) 4
        g % 2 ^ 18 + g / 2 ^ 23 % 2 * 2 ^ 23 == g && (!g.testBit 23 || leAt b 0 4 ≤ g % 2 ^ 18))

/-- R218: the image declares secure code, data or gates. -/
def declaresSecure (b : List Byte) : Bool :=
  let x := progSection b 6
  (leAt b 6 2).testBit 1
    || (0 < progCount b 6 && (leAt x 0 4 < 0x40000 || leAt x 4 4 < 0x40000
        || (List.range 16).any (fun i => (gateWord x i).getLsbD 23)))

/-- R216, R217: the sections' types, counts and ranges. -/
def sectionsOk (b : List Byte) : Bool :=
  let xs := progSections b
  let span (k d : Nat) : List (Nat × Nat) := (xs.filter (fun x => x.kind == k)).map (fun x => (x.addr, x.size / d))
  xs.all (fun x => 1 ≤ x.kind && x.kind ≤ 6 && (x.kind ≤ 2 || x.addr == 0)
      && (x.kind != 1 || (x.size % 6 == 0 && x.addr + x.size / 6 ≤ 0x40000))
      && (x.kind != 2 || (x.size % 4 == 0 && x.addr + x.size / 4 ≤ 0x40000
          && (List.range (x.size / 4)).all (fun i => leAt b (x.off + 4 * i + 3) 1 == 0))))
    && 1 ≤ progCount b 1 && [3, 4, 5, 6].all (fun k => progCount b k ≤ 1)
    && (progCount b 6 == 0 || leAt b 4 2 == 2) && disjointSpans (span 1 6) && disjointSpans (span 2 4)

/-- R215: the header fields lie within their registers' ranges, and ENTRY in a CODE section. Header bits outside a field, and EWORLD
in an image of format 1, fail here, in step 4, and undefined FLAGS bits in step 1 (DESIGN CHOICE, log entry 108). -/
def progHeaderOk (b : List Byte) : Bool :=
  let e := leAt b 0x10 4
  e < 2 ^ 18 && (progSections b).any (fun x => x.kind == 1 && x.addr ≤ e && e < x.addr + x.size / 6)
    && leAt b 0x14 4 < 2 ^ 10 && leAt b 0x18 4 < 2 ^ 19 && leAt b 0x1C 4 < 2 ^ 19 && leAt b 0x18 4 < leAt b 0x1C 4
    && leAt b 0x20 4 < 2 ^ 17 && leAt b 0x20 4 / 4 % 32 == 0 && leAt b 0x24 4 < 2 ^ 16
    && leAt b 0x28 4 / 16 ≤ 11 && leAt b 0x28 4 % 16 ≤ 10
    && (!(leAt b 6 2).testBit 1 || leAt b 4 2 == 2)

/-- The checks of R219 in its order. The device's VQ24 version is SEQ_ID.ISA, 1. -/
def progCheck (b : List Byte) : Status :=
  let n := leAt b 0x0E 2
  let xs := progSections b
  firstFailure
    [(0x80 ≤ b.length && b.length == leAt b 0x2C 4 && leAt b 0 4 == 0x47505156 && zeros b 0x30 16 && leAt b 6 2 < 4
        && 1 ≤ n && n ≤ 32 && 0x80 + 16 * n ≤ b.length
        && (List.range n).all (fun i => zeros b (0x80 + 16 * i + 2) 2)
        && xs.all (fun x => x.off % 4 == 0 && 0x80 + 16 * n ≤ x.off && x.off + x.size ≤ b.length)
        && disjointSpans (xs.map (fun x => (x.off, x.size))), .badParameter),
     ((leAt b 4 2 == 1 || leAt b 4 2 == 2) && leAt b 8 4 == 0x7700 && revOk (leAt b 0x0C 1) && leAt b 0x0D 1 ≤ 1,
        .versionMismatch),
     ((Config.sha512 (b.drop 0x80)).toNat == leAt b 0x40 64, .integrity),
     (sectionsOk b && progHeaderOk b && (progCount b 6 == 0 || secureOk (progSection b 6))
        && (stencilSection (progSection b 3)).isSome && (progCount b 4 == 0 || keptOk (progSection b 4))
        && energyOk (progSection b 5), .badParameter)]

/-- R220: the run-entry values of a header. -/
def progEntry (b : List Byte) : RunEntry where
  entry := BitVec.ofNat 18 (leAt b 0x10 4)
  epriv := (leAt b 6 2).testBit 0
  eworld := (leAt b 6 2).testBit 1
  tvbase := BitVec.ofNat 10 (leAt b 0x14 4)
  spBase := BitVec.ofNat 19 (leAt b 0x18 4)
  spLimit := BitVec.ofNat 19 (leAt b 0x1C 4)
  fpcsr := BitVec.ofNat 17 (leAt b 0x20 4)
  imask := BitVec.ofNat 16 (leAt b 0x24 4)
  wctl := BitVec.ofNat 8 (leAt b 0x28 4)

/-- R217, R220: instruction and data memory as the image gives them; every other address 0. -/
def progMemory (b : List Byte) : SeqMem :=
  let at_ (k : Nat) : List Section := (progSections b).filter (fun x => x.kind == k)
  { imem := (at_ 1).foldl (fun m x => (List.range (x.size / 6)).foldl (fun m i =>
      sput 0 m (x.addr + i) (BitVec.ofNat 48 (leAt b (x.off + 6 * i) 6))) m) []
    dmem := (at_ 2).foldl (fun m x => (List.range (x.size / 4)).foldl (fun m i =>
      sput 0 m (x.addr + i) (BitVec.ofNat 24 (leAt b (x.off + 4 * i) 3))) m) []
    imemBad := []
    dmemBad := [] }

/-! ### Channel map (R445 to R447) -/

/-- A channel (R446). -/
structure Channel where
  postcode : Nat
  u : Int
  v : Int
  w : Int
  width : Nat
  rate : Nat
  region : Nat
  stencils : Nat
  deriving DecidableEq, Repr

def mapCount (b : List Byte) : Nat := leAt b 8 4
def mapRecord (b : List Byte) : Nat := if leAt b 4 2 = 1 then 16 else 24

/-- Record `i` of a map. -/
def channelAt (b : List Byte) (i : Nat) : Channel :=
  let z := mapRecord b
  let o := 0x20 + z * i
  { postcode := leAt b o 4, u := signed16 (leAt b (o + 4) 2), v := signed16 (leAt b (o + 6) 2),
    w := signed16 (leAt b (o + 8) 2), width := leAt b (o + 10) 1, rate := leAt b (o + 11) 1, region := leAt b (o + 12) 1,
    stencils := if z = 16 then leAt b (o + 14) 2 else leAt b (o + 16) 8 }

/-- The channels of a map. -/
def channels (b : List Byte) : List Channel := (List.range (mapCount b)).map (channelAt b)

/-- Strictly rising. -/
def rising (l : List Nat) : Bool := (l.zip (l.drop 1)).all (fun e => e.1 < e.2)

/-- No two channels have the same coordinates. -/
def coordsDistinct (l : List Channel) : Bool :=
  match l with
  | [] => true
  | c :: r => r.all (fun d => !(c.u == d.u && c.v == d.v && c.w == d.w)) && coordsDistinct r

/-- The checks of R447 in its order. -/
def mapCheck (b : List Byte) : Status :=
  let n := mapCount b
  let z := mapRecord b
  let cs := channels b
  firstFailure
    [(leAt b 0 4 == 0x4D484356, .badParameter),
     (leAt b 4 2 == 1 || leAt b 4 2 == 2, .versionMismatch),
     (1 ≤ n && n ≤ 1048576 && b.length == 32 + z * n, .badParameter),
     (zeros b 6 2 && zeros b 0x0C 20
        && (List.range n).all (fun i => zeros b (0x20 + z * i + 3) 1 && zeros b (0x20 + z * i + 13) (if z = 16 then 1 else 3))
        && cs.all (fun c => 1 ≤ c.width && c.width ≤ 16 && 1 ≤ c.rate)
        && rising (cs.map (·.postcode)) && coordsDistinct cs, .badParameter)]

/-! ### Provisioning bundle (R657) -/

/-- The bundle obeys R657. -/
def bundleOk (b : List Byte) : Bool :=
  let k := leAt b 6 1
  let t := leAt b 0x0C 1
  32 ≤ b.length && leAt b 0 4 == 0x56505156 && leAt b 4 2 == 1 && 1 ≤ k && k ≤ 8 && leAt b 7 1 < 4 && t ≤ 4
    && (!(leAt b 7 1).testBit 0 || 1 ≤ t) && zeros b 0x0D 19 && b.length == 32 + 32 * k + 32 * t

/-- The keys of a bundle from byte `off`. -/
def bundleKeys (b : List Byte) (off n : Nat) : Sparse (BitVec 256) :=
  (List.range n).foldl (fun m i => sput 0 m i (BitVec.ofNat 256 (leAt b (off + 32 * i) 32))) []

/-! ### The flash (R439) -/

/-- `n` bytes of the fallback flash. -/
def Otp.flashBytes (o : Otp) (off n : Nat) : List Byte := (List.range n).map (fun i => Config.flash (off + i) ^^^ sget 0 o.flash (off + i))

/-- The golden firmware, cut to the length its header gives. -/
def Otp.goldenFirmware (o : Otp) : List Byte :=
  let h := o.flashBytes 0x10000 0x20
  o.flashBytes 0x10000 (min 2097152 (96 + leAt h 0x0C 4))

/-- The baseline patch. -/
def Otp.baselinePatch (o : Otp) : List Byte :=
  let h := o.flashBytes 0x210000 0x20
  let (m, u, n) := patchCounts h
  o.flashBytes 0x210000 (min 65536 (96 + 8 * m + 8 * u + 16 * n))

/-- The golden Tweed image. -/
def Otp.goldenTweed (o : Otp) : List Byte :=
  let h := o.flashBytes 0x230000 0x60
  o.flashBytes 0x230000 (min 31260672 (96 + 528 * tweedFrames h + (if tweedSigned h then 64 else 0)))

/-- The device certificate chain (R666). -/
def Otp.certs (o : Otp) : List Byte := o.flashBytes 0x220000 (min 65536 Config.certLength)

end Sys2Proof.Machine
end

