-- ==== Sys2Proof/Machine/Fabric.lean ====
section
/-! DEFINITION. What a Tweed region holds and drives (10): its state, queues, memory blocks, multipliers, flip-flops, boundary signals
and pins. What the user logic of a region computes is not modelled from its frames, whose layout the spec does not print: it gives free
values (DESIGN CHOICE, log entry 23). -/

namespace Sys2Proof.Machine

/-! ### States and queues -/

/-- TWC_RSTATE_r.STATE. -/
def State.rstate (s : State) (r : Nat) : Nat := s.rfld bTWC r 0 3
def State.setRstate (s : State) (r st : Nat) : State := s.setRfld bTWC r 0 3 st

/-- R422: a region that is not ACTIVE holds no queue entry. -/
def State.emptyQueues (s : State) (r : Nat) : State :=
  s.mapTw (fun t => { t with queues := t.queues.filter (fun e => e.1 / 1024 != r),
                             popped := t.popped.filter (fun e => e.1 / 1024 != r) })

/-! ### Multipliers (R409) -/

/-- The 48-bit product of two 24-bit operands, signed or unsigned. -/
def product24 (signed : Bool) (a b : BitVec 24) : BitVec 48 :=
  if signed then a.signExtend 48 * b.signExtend 48 else a.setWidth 48 * b.setWidth 48

/-- One clock of a multiplier: a product enters the first stage, and the one before it leaves the second, added to the accumulator where
that was asked. -/
def Multiplier.clock (m : Multiplier) (signed add : Bool) (a b : BitVec 24) : Multiplier :=
  let acc := if m.add then m.acc + m.first else m.acc
  { first := product24 signed a b, add := add, acc := acc, out := if m.add then acc else m.first }

def Multiplier.reset : Multiplier where
  first := 0
  add := false
  acc := 0
  out := 0

/-! ### Memory blocks (R410) -/

/-- Words and width of a RAM mode. -/
def ramShape (mode : Nat) : Nat × Nat :=
  if mode = 0 then (4096, 9) else if mode = 1 then (2048, 18) else if mode = 2 then (1024, 36) else (512, 72)

/-- The word at an address of a block in a RAM mode, and the block with it replaced. -/
def ramGet (mode : Nat) (c : BitVec 36864) (a : Nat) : BitVec 72 :=
  let (n, w) := ramShape mode
  BitVec.ofNat 72 (fld c (a % n * w) w)
def ramPut (mode : Nat) (c : BitVec 36864) (a : Nat) (d : BitVec 72) : BitVec 36864 :=
  let (n, w) := ramShape mode
  setFld c (a % n * w) w (fld d 0 w)

/-- TWQ_BCFG_b.MODE. -/
def State.blockMode (s : State) (r b : Nat) : Nat := s.rfld (bTWQ + r) (0x1000 + b) 0 3

/-- One access at a port of a block in a RAM mode. -/
def State.ramPort (s : State) (r b port : Nat) (write : Bool) (a : Nat) (d : BitVec 72) : State :=
  let k := 128 * r + b
  let mode := s.blockMode r b
  if 4 ≤ mode then s
  else if write then s.mapTw (fun t => { t with ram := sput 0 t.ram k (ramPut mode (sget 0 t.ram k) a d) })
  else s.mapTw (fun t => { t with ramOut := sput 0 t.ramOut (2 * k + port) (ramGet mode (sget 0 t.ram k) a) })

/-- R419: memory frame `k` gives a block its contents: nine frames a block, in ascending order (DEDUCED, log entry 103). -/
def Tweed.memoryFrame (t : Tweed) (r k : Nat) (d : BitVec 4096) : Tweed :=
  let b := 128 * r + (k - 2432) / 9
  { t with ram := sput 0 t.ram b (setFld (sget 0 t.ram b) ((k - 2432) % 9 * 4096) 4096 d.toNat) }

/-! ### Flip-flops, boundary signals and pins (R402, R422) -/

/-- The frames of a region that are written. -/
def Tweed.frames (t : Tweed) (r : Nat) : Sparse (BitVec 4096) :=
  t.config.filterMap (fun e => if e.1 / 3584 == r then some (e.1 % 3584, e.2) else none)

/-- Initial values of a region's flip-flops: 0 before their frame is written. -/
def Tweed.initialFlops (t : Tweed) (r : Nat) : BitVec 40960 :=
  (t.frames r).foldl (fun a e => a ||| Config.flopInit e.1 e.2) 0

/-- Isolation values of a region's boundary signals: 0 before its control frame is written. -/
def Tweed.isolation (t : Tweed) (r : Nat) : BitVec 2048 :=
  match sget 0 t.config (3584 * r) with
  | 0 => 0
  | f => Config.isolation f

/-- R403: the region that the lanes of quad `q` are bound to. -/
def quadRegion (q : Nat) : Nat := if q < 12 then q / 3 else (q - 4) / 2

/-- R422: a region that is not ACTIVE: queues empty, flip-flops at their initial values, boundary signals clamped, no pin driven; what its
monitors counted is gone with their flip-flops (R439). -/
def State.quietRegion (s : State) (r : Nat) : State :=
  (s.emptyQueues r).mapTw (fun t => { t with
    flops := sput 0 t.flops r (t.initialFlops r), boundary := sput 0 t.boundary r (t.isolation r),
    mults := t.mults.filter (fun e => e.1 / 32 != r), ramOut := t.ramOut.filter (fun e => e.1 / 256 != r),
    twio := t.twio.filter (fun e => e.1 / 4 != r), fbio := if r = 15 then [] else t.fbio,
    monitors := t.monitors.filter (fun e => quadRegion (e.1 / 4) != r) })

/-- A region loses its configuration; its memory blocks keep what memory frames last wrote (R422). -/
def State.blankConfig (s : State) (r : Nat) : State :=
  s.mapTw (fun t => { t with config := t.config.filter (fun e => e.1 / 3584 != r), golden := setBit t.golden r false })

/-- A region's memory blocks lose their contents, or are written with 0. -/
def State.dropRam (s : State) (r : Nat) : State := s.mapTw (fun t => { t with ram := t.ram.filter (fun e => e.1 / 128 != r) })

/-- R684: no user PLL that a region's spines take their clocks from is out of lock. -/
def State.clocked (s : State) (r : Nat) : Bool :=
  let locks := (s.reg bCLK 0).extractLsb' 12 8
  locks == 0xFF || (Config.userPlls (sget 0 s.tw.config (3584 * r)) &&& ~~~locks) == 0

/-- The user logic of a region runs: it is ACTIVE and clocked. -/
def State.runs (s : State) (r : Nat) : Bool := s.rstate r == 3 && s.clocked r

/-- R427: an ACTIVE region's design drives its boundary signals and pins: free values. The fallback pins follow region 15 where its
image's FBPINS is 1 (R442). -/
def State.driveRegion (s : State) (r : Nat) : State :=
  let t := s.drawn
  let v := t.freeBits 24
  let pins (m : Sparse (Bool × Bool)) (n base lo : Nat) : Sparse (Bool × Bool) :=
    (List.range n).foldl (fun m i => sput (false, false) m (base + i) (v.getLsbD (lo + 2 * i), v.getLsbD (lo + 2 * i + 1))) m
  t.drawn.mapTw (fun w => { w with
    boundary := sput 0 w.boundary r (s.freeBits 2048), twio := pins w.twio 4 (4 * r) 0,
    fbio := if r = 15 && w.fbpins then pins w.fbio 8 0 8 else w.fbio })

/-- What a pin of the fabric does. -/
inductive PinState where
  /-- High-Z with 50 kΩ pull-down. -/
  | pulledDown
  /-- Driven by the design. -/
  | driven (level : Bool)
  /-- Released by the design, as an input of its own. -/
  | released
  /-- A fallback serial port's. -/
  | serial
  /-- Boundary scan's, through its boundary-scan cell. -/
  | scanned
  deriving DecidableEq, Repr

def designPin (e : Bool × Bool) : PinState := if e.1 then .driven e.2 else .released

/-- R736 to R738: the instructions under which boundary scan drives the cells, and no run may start. -/
def boundaryScan (i : BitVec 8) : Bool := [0x00, 0x03, 0x04, 0x05, 0x06].contains i.toNat

/-- TWIO pin `n` (R422, R736). -/
def State.twioPin (s : State) (n : Nat) : PinState :=
  if boundaryScan s.sys.jtag then .scanned else
  if s.rstate (n / 4) = 3 then designPin (sget (false, false) s.tw.twio n) else .pulledDown

/-- Fallback pin `n`, 0 to 7 (R422, R442, R736). -/
def State.fallbackPin (s : State) (n : Nat) : PinState :=
  if boundaryScan s.sys.jtag then .scanned else
  if s.rstate 15 ≠ 3 then .serial
  else if s.tw.fbpins then designPin (sget (false, false) s.tw.fbio n) else .pulledDown

/-- R442: the fallback serial ports hold the fallback pins. -/
def State.serialPorts (s : State) : Bool := s.rstate 15 != 3

/-! ### One clock of user logic -/

/-- The user logic of an ACTIVE region: flip-flops, boundary signals and pins take free values, and each multiplier and RAM port does a
free operation. -/
def State.fabricRegion (s : State) (r : Nat) : State :=
  let t := (s.drawn.mapTw (fun w => { w with flops := sput 0 w.flops r (s.freeBits 40960) })).driveRegion r
  let t := (List.range 32).foldl (fun s m =>
    let v := s.freeBits 50
    let x := (sget Multiplier.reset s.tw.mults (32 * r + m)).clock (v.getLsbD 48) (v.getLsbD 49) (v.extractLsb' 0 24) (v.extractLsb' 24 24)
    s.drawn.mapTw (fun w => { w with mults := sput Multiplier.reset w.mults (32 * r + m) x })) t
  (List.range 256).foldl (fun s e =>
    let v := s.freeBits 85
    s.drawn.ramPort r (e / 2) (e % 2) (v.getLsbD 84) (fld v 72 12) (v.extractLsb' 0 72)) t

end Sys2Proof.Machine
end

