-- ==== Sys2Proof/Machine/Micro.lean ====
section
/-! DEFINITION. The array unit and the broadcast pipeline (04, 07): the micro-sequencer, patches, the words it issues, their
execution and the landing of their reductions; one array cycle of the sequencer (`State.tick`), the spiller included. -/

namespace Sys2Proof.Machine

/-! ### Words at stage SB (R120, R122, R130, R131, R294) -/

/-- A word of 78 stored bits as issued: WT, LV, VALID, ISN and CHK inserted. -/
def sbWord (b : BitVec 78) (wt lv valid : Bool) (isn : BitVec 16) : BitVec 128 :=
  let w := setBit (setBit (setBit (b.setWidth 128) 75 wt) 77 lv) 78 valid
  let w := setFld w 96 16 isn.toNat
  setFld w 120 8 (Config.chk (w.extractLsb' 0 120)).toNat

/-- The bits of word `i` of a macro whose ROM routine is not printed, as far as the stream itself shows them: the delivery
bits of the last word (R201), ASIDE's SLOT, and STOP (DEDUCED, log entry 6). `total` is 0 while the count is not known. -/
def romBits (m : Macro) (i total scanEnd : Nat) : BitVec 78 :=
  let last := i == total
  let d := fD8 m.word
  let b : BitVec 78 := 0
  let b := if last && takesD8 m.op then
      setBit (setBit (setFld (setBit b 70 (d.testBit 7)) 68 2 (d / 32)) 71 (d.testBit 4)) 72 (d.testBit 3)
    else b
  let b := if m.op = 0xC6 then setFld b 73 2 (fA8 m.word) else b
  setBit b 76 (!m.level && 2048 < total && !last && i % 256 == 0 && scanEnd < i)

/-- R297: the save routine. -/
def saveWords : List (BitVec 78 × Bool) :=
  ([(2040, 0xF0, 0), (2041, 0xCC, 0), (2042, 0xAA, 0), (2043, 0xAA, 1), (2044, 0xAA, 2), (2045, 0xAA, 3)] :
    List (Nat × Nat × Nat)).map (fun e =>
      (setBit (setFld (setFld (setBit (setFld 0 24 12 e.1) 36 true) 37 8 e.2.1) 47 3 e.2.2) 77 true, false))

/-- A tail or restore word: optional bank-0 and bank-1 reads, truth table, Z, and further bits set. -/
def plainWord (r0 r1 : Option Nat) (tt zs : Nat) (wa : Option Nat) (bits : List Nat) : BitVec 78 :=
  let b : BitVec 78 := 0
  let b := match r0 with | some a => setBit (setFld b 0 11 a) 11 true | none => b
  let b := match r1 with | some a => setBit (setFld b 12 11 a) 23 true | none => b
  let b := match wa with | some a => setBit (setFld b 24 12 a) 36 true | none => b
  bits.foldl (fun x i => setBit x i true) (setFld (setFld b 37 8 tt) 47 3 zs)

/-- R298: the restore routine. Bit 54 UC, 55 UM, 56 UG, 57 UN, 46 CF = TT. -/
def restoreWords : List (BitVec 78 × Bool) :=
  [(plainWord none none 0xFF 0 none [55, 77], false),
   (plainWord (some 2044) none 0xF0 0 none [56, 77], false),
   (plainWord (some 2041) none 0xF0 0 (some 4095) [77], false),
   (plainWord (some 2042) (some 2047) 0xF0 0 none [46, 54, 77], false),
   (plainWord (some 2043) none 0xF0 0 none [57, 77], false),
   (plainWord (some 2045) none 0xF0 0 none [55, 77], false),
   (plainWord (some 2040) none 0 0 none [77], false)]

/-- R348: the check tail for the enables `aen` at a level. Bits 2046 and 2047, which R50 calls unpredictable, keep what it wrote last
(DESIGN CHOICE, log entry 94). -/
def tailWords (aen : BitVec 5) (lv : Bool) : List (BitVec 78 × Bool) :=
  let l := if lv then [77] else []
  [(plainWord none none 0xAA 2 (some 2046) l, false), (plainWord none none 0xAA 3 (some 2047) l, false),
   (plainWord none none 0xFF 0 none ([55] ++ l), false),
   (plainWord (some 2047) none 0xF0 0 none ([46, 54] ++ l), false)]
  ++ (ones aen).map (fun k => (plainWord (some (1904 + k)) none 0xA0 0 none ([56] ++ l), true))
  ++ [(plainWord (some 2046) none 0xF0 0 none ([56] ++ l), false),
      (plainWord (some 2047) none 0xF0 0 none ([55] ++ l), false)]

/-! ### The micro-sequencer (R281 to R302) -/

/-- R301: the match that a fetch of a ROM address meets, lowest register first. -/
def patchMatch (p : Option Patch) (a : Nat) : Option PatchMatch :=
  match p with
  | none => none
  | some b =>
    if 16384 ≤ a then none
    else (List.range 32).findSome? (fun i => b.matches_.find? (fun e => e.index == i && e.mtch == a))

/-- R300, R301: a fetch: the micro-word, the address it stands at, and the resume address latched. A patch RAM entry that no patch has
written reads 0 (DESIGN CHOICE, log entry 116). -/
def microFetch (p : Option Patch) (a resume : Nat) : BitVec 40 × Nat × Nat :=
  let ram (i : Nat) : BitVec 40 := match p with | some b => (b.uwords[i]?).getD 0 | none => 0
  match patchMatch p a with
  | some e => (ram e.target, 16384 + e.target, e.resume)
  | none => if 16384 ≤ a then (ram (a - 16384), a, resume) else (Config.rom a, a, resume)

/-- A counter of a run. -/
def Run.counter (r : Run) (c : Nat) : Nat := if c = 0 then r.l0 else if c = 1 then r.l1 else r.l2
def Run.setCounter (r : Run) (c v : Nat) : Run :=
  if c = 0 then { r with l0 := v } else if c = 1 then { r with l1 := v } else { r with l2 := v }

/-- A pointer of a run (R283), by number 0 to 3. -/
def Run.pointer (r : Run) (i : Nat) : Nat :=
  if i = 0 then r.p0 else if i = 1 then r.p1 else if i = 2 then r.p2 else r.p3

/-- R287, R289: pointers and K after a word. -/
def Run.stepped (r : Run) (u : BitVec 40) : Run :=
  let st (i p : Nat) : Nat :=
    if u.getLsbD (24 + i) then (if u.getLsbD 28 then (p + 4095) % 4096 else (p + 1) % 4096) else p
  { r with p0 := st 0 r.p0, p1 := st 1 r.p1, p2 := st 2 r.p2, p3 := st 3 r.p3,
           k := if u.getLsbD 23 then (r.k + 1) % 32 else r.k }

/-- The target of a signed offset of `n` bits from address `a`. -/
def microTarget (a ofs n : Nat) : Nat :=
  ((a : Int) + (BitVec.ofNat n ofs).toInt).toNat

/-- R290, R295: the sequencing operation of the micro-word `u` at address `a`, its word issued at cycle `t`: the run after
it, and whether it was the last word. -/
def Run.sequenced (r : Run) (u : BitVec 40) (a t : Nat) : Run × Bool :=
  let ofs := fld u 29 8
  let c := ofs / 64
  let next := { r with upc := a + 1 }
  let loop (r : Run) : Run × Bool :=
    let v := r.counter c - 1
    ((r.setCounter c v), 0 < v)
  match fld u 37 3 with
  | 1 =>
    let (q, take) := loop r
    ({ q with upc := if take then microTarget a (ofs % 64) 6 else a + 1 }, false)
  | 2 =>
    let v := if ofs.testBit 5 then ofs % 32 + 1
      else if ofs % 4 = 0 then r.w0 else if ofs % 4 = 1 then r.w1 else r.w2
    ({ next.setCounter c v with scans := r.scans.filter (fun x => x.counter != c || x.ended), loaded := setBit r.loaded c true }, false)
  | 3 => ({ r with upc := microTarget a ofs 8 }, false)
  | 4 =>
    let (q, take) := loop r
    let note (x : Scan) : Scan :=
      if x.counter = c && !x.ended then { x with words := x.words ++ [(t, false)], ended := !take } else x
    ({ q with
        upc := if take then microTarget a (ofs % 64) 6 else a + 1, loaded := setBit r.loaded c false,
        scans := (if r.loaded.getLsbD c then r.scans ++ [⟨c, r.counter c, [], false⟩] else r.scans).map note }, false)
  | 5 => (next, true)
  | 6 => ({ r with upc := r.resume }, false)
  | _ => (next, false)

/-- R294: a stored address in the level-0 scratch moves 64 up at level 1; `bank` is 1912 or 3968. -/
def relocated (lv : Bool) (a : Nat) : Nat :=
  if lv && ((1912 ≤ a && a < 1976) || (3968 ≤ a && a < 4032)) then a + 64 else a

/-- R122, R286, R292, R294: the stored bits of the nano-word a micro-word issues, substitutions applied. A patch nano-store entry that no
patch has written reads 0 (DESIGN CHOICE, log entry 116). -/
def nanoBits (p : Option Patch) (r : Run) (u : BitVec 40) (last : Bool) : BitVec 78 :=
  let na := fld u 0 13 + (if last then r.dlv.toNat else 0)
  let b0 : BitVec 78 := if na < 4096 then Config.nanoStore na
    else match p with | some b => (b.nwords[na - 4096]?).getD 0 | none => 0
  let b := setBit (setBit b0 75 false) 77 false
  let lv := r.mac.level
  let src (code stored n : Nat) : Nat := if 1 ≤ code && code ≤ 4 then r.pointer (code - 1) % 2 ^ n else stored
  let b := setFld b 0 11 (src (fld u 13 3) (relocated lv (fld b 0 11)) 11)
  let b := setFld b 12 11 (src (fld u 16 3) (relocated lv (2048 + fld b 12 11)) 11)
  let b := setFld b 24 12 (src (fld u 19 3) (relocated lv (fld b 24 12)) 12)
  let tt := if r.mac.op = 0x94 then (if r.mac.cast.getLsbD r.k then 0xFF else 0) else r.ttp.toNat
  let b := if u.getLsbD 22 then setFld b 37 8 tt else b
  if u.getLsbD 23 then setFld (setFld b 50 4 r.k) 64 4 r.k else b

/-! ### Dispatch (R193, R282, R283) -/

/-- R288: TTP. -/
def ttpOf (op : Nat) (w : BitVec 40) : BitVec 8 :=
  if op = 0x92 then bitsOf 8 (fun i => (fA8 w).testBit (i / 2))
  else if op = 0x93 then BitVec.ofNat 8 (fA8 w) else 0

/-- R282: the entry-table index of a macro; `o` is AGATH's offset. -/
def entryIndex (m : Macro) (o : Int × Int) : Nat :=
  let bank := if 2048 ≤ m.b1 && (macroFields m.op m.word).1 != [] then 1 else 0
  if m.op = 0x85 || m.op = 0x86 then bank + 2 * m.early.toNat
  else if m.op = 0xB0 then bank + 2 * fld m.word 22 2
  else if m.op = 0xB1 || m.op = 0xB2 then bank + 2 * (decide (o.1 < 0)).toNat + 4 * (decide (o.2 < 0)).toNat
  else bank

/-- R283: the parameter registers at dispatch, or at a pass of AGATHOR with offset `o`. -/
def Macro.enter (m : Macro) (o : Int × Int) (issued : Nat) (total : Option Nat) (pass : Nat) : Run :=
  let af2 := afOf m.op = 2
  let gath := m.op = 0xB1 || m.op = 0xB2
  let w := m.word
  { mac := m, upc := (Config.entry m.op (entryIndex m o)).toNat,
    p0 := m.b1 % 4096, p1 := m.b2 % 4096, p2 := m.b3 % 4096, p3 := m.bd % 4096,
    w0 := if afOf m.op = 3 then fld w 24 8 + 1 else fW w,
    w1 := if af2 then fld w 4 8 + 1 else if m.op = 0xB0 then fld w 12 10 else if gath then o.1.natAbs else 0,
    w2 := if af2 then fld w 28 8 + 1 else if gath then o.2.natAbs else 0,
    l0 := 0, l1 := 0, l2 := 0, k := if m.op = 0xC0 || m.op = 0xC1 then fA8 w % 16 else 0,
    ttp := ttpOf m.op w, dlv := if afOf m.op = 1 then BitVec.ofNat 5 (fD8 w / 8) else 0, resume := 0,
    issued := issued, total := total, patched := false, scans := [], loaded := 0, steps := if m.op = 0x86 then 1 else 0, pass := pass,
    spoiled := false }

/-- The macro as the array unit reads it (R193); a base that the format does not supply is 0 (R283). -/
def Seq.macro (q : Seq) (op : Nat) (w : BitVec 40) : Macro :=
  let b (r : Nat) : Nat := (aGet q r).toNat
  let af := afOf op
  { op := op, word := w,
    b1 := b (if af = 2 then fld w 24 4 else fAs1 w),
    b2 := if af = 3 then 0 else b (if af = 2 then fld w 12 4 else fAs2 w),
    b3 := if af = 1 then b (fAs3 w) else 0,
    bd := b (fAd w),
    offs := macroOffs q op w, cast := if op = 0x94 then daGet q (fA8 w % 64) else 0,
    rm := fld q.fpcsr 0 2, aen := q.fpcsr.extractLsb' 12 5, level := q.depth != 0,
    early := (op = 0x85 || op = 0x86) && !q.locked && 32 ≤ fld w 16 8 + 1 && 32 ≤ fld w 4 8 + 1,
    bad := macroBad q op w }

/-- A macro's run at its dispatch. -/
def Macro.start (m : Macro) : Run :=
  m.enter (m.offs.headD (0, 0)) 0 (if m.early then none else some (macroCycles m.op m.word m.offs)) 0

/-- R348: whether a check tail follows the macro. -/
def Macro.checked (m : Macro) : Bool := isArith m.op && m.aen != 0

/-! ### Early-out (R341) -/

/-- The last word of the scan: 48 + n. -/
def Macro.scanEnd (m : Macro) : Nat := if m.early then 48 + (fld m.word 4 8 + 1) else 0

/-- R295, R341: the partial-product steps that scan word `i` (from 1, the most significant multiplier bit first) of an early-out
multiply calls for in the executing tiles `ts`. -/
def State.scanSteps (s : State) (ts : BitVec 272) (m : Macro) (i : Nat) : Nat :=
  let n := fld m.word 4 8 + 1
  let e := tilesPlane ts &&& s.cv.m
  let plane (j : Nat) : Plane := s.cv.readPlane (m.b2 + j) &&& e
  let j := n - i
  if m.op = 0x85 then (if plane j != 0 then j + 1 else 0)
  else if j + 1 < n && plane j != plane (n - 1) then j + 2 else 1

/-- A scan word of the multiply in issue executes. -/
def State.scanWord (s : State) (ts : BitVec 272) (m : Macro) (i : Nat) : State :=
  if m.early && i ≤ fld m.word 4 8 + 1 then
    s.mapArr (fun a => { a with run := a.run.map (fun r => { r with steps := max r.steps (s.scanSteps ts m i) }) })
  else s

/-- R341: the cycle count of an early-out multiply. -/
def earlyCycles (m : Macro) (k : Nat) : Nat :=
  let w1 := fld m.word 16 8 + 1
  let n := fld m.word 4 8 + 1
  48 + n + k * (w1 + 2) + 3 + (fld m.word 28 8 + 1 - (n + w1))

/-! ### Issue -/

/-- Places one word in the pipeline at the current cycle. -/
def State.place (s : State) (b : BitVec 78) (lv valid : Bool) (k : WordKind) : State :=
  s.mapArr (fun a => { a with
    pipe := a.pipe ++ [{ bits := sbWord b s.seq.world lv valid a.isn, issued := s.cycle, kind := k, locked := s.seq.locked }],
    isn := a.isn + 1 })

/-- R311: whether a patch fetch for micro-address `a` and the nano-entry that its word takes (R292) meets an uncorrectable error. -/
def State.patchError (s : State) (a : Nat) (u : BitVec 40) (dlv : Nat) : Bool :=
  let na := fld u 0 13 + (if fld u 37 3 = 5 then dlv else 0)
  (16384 ≤ a && s.arr.patchBad.contains a) || (4096 ≤ na && s.arr.patchBad.contains (0x8000 + (na - 4096)))

/-- R295: a scan's result is due at cycle `t`. -/
def Scan.due (x : Scan) (t : Nat) : Bool :=
  match x.words.getLast? with
  | some w => x.ended && w.1 + 48 ≤ t
  | none => false

/-- R295: the value that a scan gives L2. -/
def Scan.value (x : Scan) : Nat := match x.words.findIdx? Prod.snd with | some i => x.len - i | none => 0

/-- R295: the scans due at cycle `t` land in L2, the oldest first. -/
def Run.landScans (r : Run) (t : Nat) : Run :=
  { (r.scans.filter (fun x => x.due t)).foldl (fun r x => { r with l2 := x.value }) r with
    scans := r.scans.filter (fun x => !x.due t) }

/-- R295: the global OR of the word issued at cycle `t` reaches the scan it belongs to. -/
def Run.noteGor (r : Run) (t : Nat) (gor : Bool) : Run :=
  { r with scans := r.scans.map (fun x => { x with words := x.words.map (fun e => if e.1 = t then (t, gor) else e) }) }

/-- A change of the run in issue and of the suspended one. -/
def ArrayUnit.mapRuns (a : ArrayUnit) (f : Run → Run) : ArrayUnit := { a with run := a.run.map f, susp := a.susp.map f }

/-- After a word of a run: the run goes on or ends, with its check tail (R348) or a safe point (R141). -/
def State.afterWord (s : State) (r : Run) (last stop : Bool) : State :=
  if last then
    s.mapArr (fun a => { a with
      run := none, lastSafe := !r.mac.checked,
      check := if r.mac.checked then some ⟨r.mac.aen, [], true⟩ else a.check,
      inject := if r.mac.checked then a.inject ++ tailWords r.mac.aen r.mac.level else a.inject })
  else s.mapArr (fun a => { a with run := some r, lastSafe := stop && !r.mac.level })

/-- The fields a macro writes: its destination, and the flag slot for arithmetic and AFCLR. -/
def Macro.writes (m : Macro) : List (Nat × Nat) := m.dest.toList ++ (if isArith m.op || m.op = 0xC4 then [(1904, 5)] else [])

/-- R276: a level-1 macro that writes the destination or a source of the suspended macro spoils it. -/
def spoils (m x : Macro) : Bool :=
  m.writes.any (fun d => (x.dest.toList ++ x.sources).any (fun e => overlaps d.1 d.2 e.1 e.2))

/-- R284: cycles of an AGATHOR routine up to the end of pass `j`. -/
def Macro.passEnd (m : Macro) (j : Nat) : Nat :=
  (fld m.word 24 8 + 1) * ((m.offs.take (j + 1)).map (fun o => o.1.natAbs + o.2.natAbs + 2)).sum

/-- An idle word (R120). -/
def State.issueIdle (s : State) : State := (s.place 0 false false .plain).mapArr (fun a => { a with lastSafe := false })

/-- R284: the run after the last word of a pass of AGATHOR: the next pass is entered, its micro-words run from the patch RAM where
`patched`. -/
def Run.nextPass (r : Run) (i : Nat) (total : Option Nat) (patched : Bool) : Run :=
  { r.mac.enter ((r.mac.offs[r.pass + 1]?).getD (0, 0)) i total (r.pass + 1) with patched := patched, spoiled := r.spoiled }

/-- One word of the macro in issue. A patch fetch that meets an uncorrectable error stops the stream, which carries an idle word in
that cycle (R119, R311). -/
def State.issueRun (s : State) (r : Run) : State :=
  let p := s.arr.patch
  let i := r.issued + 1
  let (u, a, res) := microFetch p r.upc r.resume
  let hit := (patchMatch p r.upc).isSome || 16384 ≤ r.upc
  let real := r.patched || hit
  if real && s.patchError a u r.dlv.toNat then
    (s.issueIdle.mapArr (fun x => { x with run := none })).mapSeq (fun q => { q with stopped := true })
      |>.seqFault 0x0C true
  else
    let total := match r.total with
      | some n => some n
      | none => if i = r.mac.scanEnd then some (earlyCycles r.mac r.steps) else none
    let r1 := { r with issued := i, total := total, patched := real, resume := res }
    let (r2, fin) := (r1.stepped u).sequenced u a s.cycle
    if real then
      -- AGATHOR runs one pass for each offset (R284)
      let (r3, last) :=
        if fin && r.mac.op = 0xB2 && r.pass + 1 < r.mac.offs.length then (r.nextPass i total true, false) else (r2, fin)
      let b := nanoBits p r u fin
      let cut := hit && !r.patched && 1 < i
      (s.place b r.mac.level true (if cut || last then .routine r.mac cut last r.spoiled else .plain)).afterWord r3 last
        (b.getLsbD 76)
    else
      let n := total.getD 0
      let b := romBits r.mac i n r.mac.scanEnd
      let r3 := if r.mac.op = 0xB2 && i = r.mac.passEnd r.pass && r.pass + 1 < r.mac.offs.length then r.nextPass i total false
        else r2
      (s.place b r.mac.level true (.rom r.mac i n r.spoiled)).afterWord r3 (i = n) (b.getLsbD 76)

/-- The word of the coming cycle: one queued ahead, one of the macro, or an idle word (R120, R194). -/
def State.issueWord (s : State) : State :=
  match s.arr.inject with
  | (b, fl) :: rest =>
    (s.place b (b.getLsbD 77) true (match s.arr.broken with | some e => .broken e.1 e.2 | none => .plain)).mapArr (fun a => { a with
      inject := rest, lastSafe := false, broken := none,
      check := if fl then a.check.map (fun c => { c with flagWords := c.flagWords ++ [s.cycle] }) else a.check })
  | [] =>
    match s.arr.run with
    | some r => s.issueRun r
    | none => s.issueIdle

/-! ### Execution (R129, R132 to R135) -/

/-- R132 to R134, R156: what each column's controller does with a word, which lies inside a locked section where `locked`: the
columns that substitute an idle word, and the state after. TCC_BC_ERR takes the ISN expected; before the first word, which R133 lets
any ISN be, that of the word itself (DESIGN CHOICE, log entry 117). -/
def State.checkColumns (s : State) (w : BitVec 128) (locked : Bool) : BitVec 16 × State :=
  (List.range 16).foldl (fun (acc : BitVec 16 × State) c =>
    let s := acc.2
    let blk := bTCC + c
    let errs := s.cv.wordErrs.filter (fun e => e.1 == nISN w && e.2.1 == c)
    let ue := errs.any (fun e => e.2.2)
    let ex := sget 0 s.cv.expect c
    let seqBad := !ue && ex != 0 && ex != (nISN w).toNat + 1
    let s1 := if errs.any (fun e => !e.2.2) then s.count blk 0x0A0 1 else s
    let want := if ex = 0 then nISN w else BitVec.ofNat 16 (ex - 1)
    let s2 := s1.mapCv (fun k => { k with expect := sput 0 k.expect c (((nISN w).toNat + 1) % 65536 + 1),
                                          wordErrs := k.wordErrs.filter (fun e => !(e.1 == nISN w && e.2.1 == c)) })
    if ue || seqBad then
      let old := s2.reg blk 0x0A1
      let new := old ||| BitVec.ofNat 24 (if ue then 0x800000 else 0x400000)
      let new := if old.getLsbD 23 || old.getLsbD 22 then new else setFld new 0 16 want.toNat
      let s3 := (s2.setReg blk 0x0A1 new).seqFault 0x0F ue
      let s4 := if locked then s3.mapSeq (fun q => { q with tl := true }) else s3
      (setBit acc.1 c true, s4)
    else (acc.1, s2)) (0, s)

/-- What a ROM routine cut by a patch match leaves: everything its words may have changed is free (DEDUCED, log entry 5). -/
def State.cutRoutine (s : State) (ts : BitVec 272) (m : Macro) : State :=
  let e := tilesPlane ts
  let s1 := s.freeScratch e m.level
  let s2 := match m.dest with | some (b, w) => s1.freeField ts (e &&& s.cv.m) b w | none => s1
  let s3 := if isArith m.op then s2.freeFlags ts (e &&& s.cv.m) else s2
  (s3.drawn.drawn.mapCv (fun c => { c with g := blend e (s3.freeBits numPE) c.g,
                                           m := blend e (s3.drawn.freeBits numPE) c.m })).freeABCN e

/-- R53, R276, R278: a macro cut short leaves unpredictable partial values in its destination and in its level's scratch. -/
def State.partResult (s : State) (ts : BitVec 272) (m : Macro) : State :=
  let t := s.freeScratch (tilesPlane ts) m.level
  match m.dest with
  | some (b, n) => t.freeField ts (tilesPlane ts &&& s.cv.m) b n
  | none => t

/-- R129, R136: the word at the head of the pipeline executes, with its side accesses and reductions. -/
def State.execWord (s : State) (p : PipeWord) : State :=
  let w := p.bits
  let (bad, s0) := s.checkColumns w p.locked
  let keep := bitsOf 272 (fun t => !bad.getLsbD (t % 16))
  let ts := if nVALID w then s0.execTiles (nWT w) &&& keep else 0
  let old := s0.cv
  let s1 := if !nVALID w then s0 else
    match p.kind with
    | .plain => s0.pe ts w
    | .routine m cut last sp =>
      let t := (if cut then s0.cutRoutine ts m else s0).pe ts w
      let t := if last && sp then t.spoiledWhole ts m else t
      if last then t.freeScratch (tilesPlane ts) m.level else t
    | .broken m wt => (s0.partResult (s0.execTiles wt &&& keep) m).pe ts w
    | .rom m i n sp => (s0.scanWord ts m i).macroWord ts m i n sp
  let slot := nSLOT w
  let s2 :=
    if nVALID w then
      s1.sides old (s0.execTiles (nWT w) &&& keep) w (slot = 1 || slot = 3) (slot = 2 || slot = 3)
    else s1.sides old s0.readyTiles w true true
  let p1 := s2.contrib (nWT w)
  let known := match p.kind with
    | .rom m i n _ => i = n || gorKnown m.op
    | .routine m _ last sp => !(last && sp && (m.op = 0xB8 || m.op = 0xB9))
    | _ => true
  let (s3, gor) := if known then (s2, p1 != 0) else (s2.drawn, (s2.freeBits 1) == 1)
  (s3.reduce p.issued w gor p1).mapArr (fun a => a.mapRuns (fun r => r.noteGor p.issued gor))

/-! ### Landings (R107 to R117) -/

/-- R110, R476, R488, R493: a delivery reaches the formatter, the accept pins that select its group and the veto. -/
def State.deliver (s : State) (g : Nat) (v : Bool) : State :=
  let cfg := s.reg bOUT 0
  (s.mapOut (fun o => { o with
    gor := if v then setBit o.gor g true else o.gor, gdlv := setBit o.gdlv g true,
    veto := if cfg.getLsbD 7 && fld cfg 5 2 == g then v else o.veto })).pinsTake g v

/-- The landings due in the current cycle. -/
def State.land (s0 : State) : State :=
  let t := s0.cycle
  let s := s0.mapArr (fun a => a.mapRuns (fun r => r.landScans t))
  let due := s.red.deliver.filter (fun e => e.1 + 48 ≤ t)
  let s1 := (s.mapRed (fun r => { r with deliver := r.deliver.filter (fun e => !(e.1 + 48 ≤ t)) }))
  let s2 := due.foldl (fun s e => s.deliver e.2.1 e.2.2) s1
  let s3 := match (s2.red.region.filter (fun e => e.1 + 32 ≤ t)).getLast? with
    | some e => (s2.mapRed (fun r => { r with region := r.region.filter (fun e => !(e.1 + 32 ≤ t)) })).mapOut
        (fun o => { o with region := e.2, rcapw := true })
    | none => s2
  match (s3.red.tally.filter (fun e => e.1 + 64 ≤ t)).getLast? with
  | some e => (s3.mapRed (fun r => { r with tally := r.tally.filter (fun e => !(e.1 + 64 ≤ t)),
                                            count := BitVec.ofNat 21 e.2.2, countSecure := e.2.1 })).mapOut
        (fun o => { o with tcapw := true })
  | none => s3

/-- The word issued 12 cycles ago executes (R136). -/
def State.execDue (s : State) : State :=
  match s.arr.pipe with
  | p :: rest => if p.issued + 12 ≤ s.cycle then (s.mapArr (fun a => { a with pipe := rest })).execWord p else s
  | [] => s

/-! ### The spiller (R235 to R243) -/

/-- The window of the oldest resident frame. -/
def Seq.oldest (q : Seq) : Nat := (q.top.val + 13 - q.res) % 12

/-- Dirty mask of ring window `w`. -/
def Seq.winMask (q : Seq) (w : Nat) : BitVec 4 := bitsOf 4 (fun j => q.dDirty.getLsbD (winGroup w j))

/-- Length of the next record. -/
def Seq.recLen (q : Seq) : Nat := 1 + 4 * popcount (q.winMask q.oldest)

def Seq.freeWindows (q : Seq) : Nat := 11 - q.res
/-- R240. -/
def Seq.stackFull (q : Seq) : Bool := q.spillLimit.toNat < q.spillPtr.toNat + q.recLen
def Seq.stackEmpty (q : Seq) : Bool := q.spillPtr.toNat ≤ q.spillBase.toNat
/-- R241: the oldest frame is secure and its record would lie below the secure data memory. -/
def Seq.spillBarred (q : Seq) : Bool := q.frameWorlds.getLast?.getD false && q.spillPtr.toNat < q.dsecBase.toNat

/-- R237, R240, R241: a spill is to begin. -/
def Seq.wantsSpill (q : Seq) : Bool :=
  (q.freeWindows < fld q.wctl 0 4 || q.wait == .save) && 2 ≤ q.res && !q.stackFull && !q.spillBarred

/-- R237, R240: a frame may be filled: there is one on the stack, RES stays in range and SPILLAT windows stay free. -/
def Seq.mayFill (q : Seq) : Bool := !q.stackEmpty && q.res ≤ 10 && fld q.wctl 0 4 + q.res + 1 ≤ 11

/-- R237: a fill is to begin. -/
def Seq.wantsFill (q : Seq) : Bool := (q.res < fld q.wctl 4 4 || q.wait == .restore) && q.mayFill

/-- Data-memory words by address; the spill stack and context records wrap modulo 2^18 (DESIGN CHOICE, log entry 19). -/
def SeqMem.word (m : SeqMem) (a : Nat) : Word := sget 0 m.dmem (a % 262144)
def SeqMem.put (m : SeqMem) (a : Nat) (v : Word) : SeqMem :=
  { m with dmem := sput 0 m.dmem (a % 262144) v, dmemBad := m.dmemBad.filter (· != a % 262144) }
def SeqMem.puts (m : SeqMem) (a : Nat) (ws : List Word) : SeqMem :=
  match ws with
  | [] => m
  | w :: r => (m.put a w).puts (a + 1) r

/-- R236: the record of the oldest frame. -/
def Seq.record (q : Seq) : List Word :=
  let w := q.oldest
  (List.range 16).filterMap (fun i =>
      if q.dDirty.getLsbD (winGroup w (i / 4)) then some (sget 0 q.dRegs (8 + 16 * w + i)) else none)
    ++ [BitVec.ofNat 24 (16 * w + (q.winMask w).toNat)]

/-- R237, R238: the oldest frame goes onto the stack. -/
def State.spillFrame (s : State) : State :=
  let q := s.seq
  let top := (q.spillPtr.toNat + q.recLen - 1) % 262144
  { s with smem := s.smem.puts q.spillPtr.toNat q.record,
           seq := { q with spillPtr := q.spillPtr + BitVec.ofNat 19 q.recLen, res := q.res - 1,
                           frameWorlds := q.frameWorlds.dropLast,
                           spilled := (top, q.frameWorlds.getLast?.getD false) :: q.spilled.filter (fun e => e.1 != top) } }

/-- The word `k` below SPILLPTR. -/
def State.belowTop (s : State) (k : Nat) : Nat := (s.seq.spillPtr.toNat + 262144 - k) % 262144

/-- R236: dirty groups that the newest record on the stack holds, from its header. -/
def State.topMask (s : State) : BitVec 4 := (s.smem.word (s.belowTop 1)).extractLsb' 0 4

/-- R241: the world of the frame of the newest record, where the spiller wrote that record; that of a record that software wrote is free
(DESIGN CHOICE, log entry 17). -/
def State.frameKnown (s : State) : Option Bool := (s.seq.spilled.find? (fun e => e.1 == s.belowTop 1)).map Prod.snd

/-- Length of the newest record on the stack. -/
def State.topLen (s : State) : Nat := 1 + 4 * popcount s.topMask

/-- R178: a word of the newest record holds an uncorrectable error. -/
def State.fillBad (s : State) : Bool := (List.range s.topLen).any (fun k => s.smem.dmemBad.contains (s.belowTop (k + 1)))

/-- R238: the newest record comes back, its frame with the world of its SAVE (R241). -/
def State.fillFrame (s : State) : State :=
  let q := s.seq
  let mask := s.topMask
  let n := 4 * popcount mask
  let w := (q.oldest + 11) % 12
  let base := s.belowTop (1 + n)
  let gs := ones mask
  let regs := (List.range 16).foldl (fun m i =>
    match gs.findIdx? (· == i / 4) with
    | some j => sput 0 m (8 + 16 * w + i) (s.smem.word (base + 4 * j + i % 4))
    | none => m) q.dRegs
  let dirty := (List.range 4).foldl (fun d j => setBit d (winGroup w j) (mask.getLsbD j)) q.dDirty
  (if s.frameKnown.isSome then s else s.drawn).mapSeq (fun q => { q with
    dRegs := regs, dDirty := dirty, spillPtr := q.spillPtr - BitVec.ofNat 19 (1 + n), res := q.res + 1,
    frameWorlds := q.frameWorlds ++ [s.frameKnown.getD (s.freeBits 1 == 1)],
    spilled := q.spilled.filter (fun e => e.1 != s.belowTop 1) })

/-- R243: pointer writes held back by a record take effect. -/
def Seq.flushPtrs (q : Seq) : Seq :=
  { q.ptrWrites.foldl (fun q (e : Fin 3 × BitVec 19) =>
      if e.1 = 0 then { q with spillBase := e.2 } else if e.1 = 1 then { q with spillLimit := e.2 }
      else { q with spillPtr := e.2 }) q with ptrWrites := [] }

/-- One cycle of the spiller (R239): a word moves unless the issuing instruction accesses data memory. A record whose move is no longer
allowed when its last word moves (R228, R237) is left where it was, and a record with an uncorrectable word is not filled and
calls for trap 0x0C (R178) (DESIGN CHOICE, log entry 95). -/
def State.spiller (s : State) : State :=
  let q := s.seq
  match q.job with
  | none =>
    if q.wantsSpill then s.mapSeq (fun q => { q with job := some ⟨false, q.recLen⟩ })
    else if q.wantsFill then
      if s.fillBad then s.mapSeq (fun q => { q with fillErr := max 1 q.fillErr })
      else s.mapSeq (fun q => { q with job := some ⟨true, s.topLen⟩, fillErr := 0 })
    else s
  | some j =>
    if s.cycle < q.dataAt then s
    else if 1 < j.left then s.mapSeq (fun q => { q with job := some { j with left := j.left - 1 } })
    else
      let s1 := if j.fill then (if q.mayFill then s.fillFrame else s) else if 2 ≤ q.res then s.spillFrame else s
      s1.mapSeq (fun q => ({ q with job := none }).flushPtrs)

/-! ### One array cycle -/

/-- One array cycle whose word `issue` gives: landings, execution, issue, the spiller, the beat window and the pulses, and on to the
next cycle
(SEQ_BPHASE saturates). -/
def State.tickWith (s : State) (issue : State → State) : State :=
  let s1 := (issue s.pulseTick.land.execDue).spiller.windowTick s.seq.bphase
  { s1 with cycle := s1.cycle + 1,
            seq := { s1.seq with bphase := min 0xFFFFFF (s1.seq.bphase + 1), bprev := s1.seq.bphase } }

/-- R29: a window access stalls the nano-word stream. -/
def Wait.stallsStream (w : Wait) : Bool := match w with | .window _ _ => true | _ => false

/-- R29, R145, R261: the stream carries idle words whatever the array unit holds. -/
def State.streamHeld (s : State) : Bool := s.seq.wait.stallsStream || s.seq.stopped || !s.sys.faults.isEmpty

/-- The array cycle `s.cycle`. -/
def State.tick (s : State) : State :=
  s.tickWith (if s.streamHeld then State.issueIdle else State.issueWord)

/-- R139: an array cycle of a stall that stops the stream. -/
def State.stallTick (s : State) : State := s.tickWith State.issueIdle

/-- Stalled array cycles until `p` holds, at most `n`. -/
def State.stallUntil (s : State) (p : State → Bool) (n : Nat) : State :=
  match n with
  | 0 => s
  | k + 1 => if p s then s else s.stallTick.stallUntil p k

/-- `n` array cycles. -/
def State.ticks (s : State) (n : Nat) : State :=
  match n with
  | 0 => s
  | k + 1 => s.tick.ticks k

/-- Array cycles until `p` holds, at most `n`. -/
def State.tickUntil (s : State) (p : State → Bool) (n : Nat) : State :=
  match n with
  | 0 => s
  | k + 1 => if p s then s else s.tick.tickUntil p k

/-- More array cycles than any macro takes: a bound for the waits on the array unit. -/
def longest : Nat := 2 ^ 25

/-- The array unit supplies a word in the coming cycle. -/
def ArrayUnit.busy (a : ArrayUnit) : Bool := a.run.isSome || !a.inject.isEmpty

/-- Array cycles until the array unit has issued every word it holds, or the stream is held. -/
def State.untilFree (s : State) : State := s.tickUntil (fun s => !s.arr.busy || s.streamHeld) longest

end Sys2Proof.Machine
end

