-- ==== Sys2Proof/Machine/Trap.lean ====
section
/-! DEFINITION. Traps and interrupts (06): trap entry and return, halting faults, the interrupt that qualifies; and the issue
of one scalar instruction: the wait for its issue cycle, the checks on its fetch, and its retirement. -/

namespace Sys2Proof.Machine

/-! ### Trap entry (R257 to R261) -/

/-- R259: SEQ_STATUS and SEQ_TSTATE.ILVL as the trap frame's D10 holds them. -/
def Seq.savedState (q : Seq) (msusp : Bool) : Word :=
  BitVec.ofNat 24 (4 * q.world.toNat + 8 * q.priv.toNat + 16 * q.ie.toNat + 32 * q.locked.toNat + 256 * msusp.toNat
    + 512 * q.ilvl)

/-- R257, R259: the registers of the sequencer after a trap entry with cause `code`; the return address is `ret`, the
trapping instruction `at_`, the vector table that of the world `w`, `line` the interrupt line if one is taken, and `phase` SEQ_BPHASE
in cycle 0. -/
def Seq.enter (q : Seq) (code : Nat) (line : Option Nat) (w : Bool) (ret at_ : BitVec 18) (msusp : Bool) (phase : Nat) : Seq :=
  let frame : List Word :=
    [ret.setWidth 24, at_.setWidth 24, q.savedState msusp,
     BitVec.ofNat 24 (code + (if code = 0x0B then 32 * fld q.fpcsr 17 5 else 0)),
     q.rptc, q.cr.setWidth 24, BitVec.ofNat 24 phase, 0]
  let keep := q.dRegs.filter (fun e => e.1 < 200)
  let regs := (frame.zipIdx).foldl (fun m (e : Word × Nat) => sput 0 m (200 + e.2) e.1) keep
  let dirty := (q.dDirty &&& ~~~(BitVec.ofNat 54 (15 * 2 ^ 50))) ||| BitVec.ofNat 54 (3 * 2 ^ 50)
  let base := if w then q.tvbaseS else q.tvbase
  { q with
    dRegs := regs, dDirty := dirty, tw := true, depth := q.depth + 1, tl := q.tl || q.locked, priv := true, ie := false,
    locked := false, ilvl := line.getD q.ilvl, world := w, rptc := 0, wait := .none, loaded := none,
    fillErr := if q.fillErr = 1 then 2 else q.fillErr,
    pc := BitVec.ofNat 18 (256 * base.toNat + 8 * code) }

/-- R261: a halting fault with its cause, at the instruction at `pc`. -/
def State.haltFault (s : State) (code : Nat) (pc : BitVec 18) : State :=
  (s.mapSeq (fun q => { q with
    stopped := true, halted := true, wait := .none,
    hcause := BitVec.ofNat 24 (2 ^ 23 + code * 2 ^ 18 + pc.toNat) })).seqFault code (code = 0x0C)

/-- R257: a trap entry, cycle 0 being `c0`, this array cycle or the one before it: the first handler instruction issues in cycle 3. -/
def State.enterTrap (s : State) (c0 code : Nat) (line : Option Nat) (w : Bool) (ret at_ : BitVec 18) (msusp : Bool) :
    State :=
  if s.seq.depth = 15 then s.haltFault code at_
  else s.mapSeq (fun q => { q.enter code line w ret at_ msusp (if c0 < s.cycle then q.bprev else q.bphase) with freeAt := c0 + 3 })

/-- R254: a synchronous trap raised by the instruction at PC. -/
def State.trap (s : State) (code : Nat) : State :=
  if s.seq.tw then s.haltFault code s.seq.pc
  else s.enterTrap s.cycle code none s.seq.world s.seq.pc s.seq.pc false

/-! ### Interrupts (R266 to R273) -/

/-- R267: the line that qualifies, apart from the boundary and the safe point. -/
def Seq.qualifies (q : Seq) : Option Nat :=
  if !q.ie || q.tw || q.locked || q.halted || q.stopped then none
  else (List.range 16).find? (fun l =>
    q.ipend.getLsbD l && q.imask.getLsbD l && l < q.ilvl && (!q.world || q.isec.getLsbD l))

/-- R270: waits that an interrupt may end; the instruction executes again after RTT. -/
def Wait.open_ (w : Wait) : Bool := match w with | .none => true | .beat => true | .save => true | .restore => true | _ => false

/-- The program runs: the mode is RUN and no halt, fault or restart holds it (R192, R261, R689, R697). -/
def State.running (s : State) : Bool :=
  s.sys.mode == .run && !s.seq.halted && !s.seq.stopped && s.sys.faults.isEmpty && !s.sys.restart && !s.sys.shutdown

/-- R141, R255, R267, R268, R272, R354, R745: the interrupt that is taken at the instruction boundary before the array cycle `s.cycle`,
and its cycle 0 (R257): while no macro is in issue, at any boundary; else at the safe point of the word issued in the cycle
before. A level-1 macro is never suspended (R275). -/
def State.interruptDue (s : State) : Option (Nat × Nat) :=
  match s.seq.qualifies with
  | none => none
  | some l =>
    if !s.running || s.cycle < s.seq.freeAt || !s.arr.inject.isEmpty then none
    else match s.arr.run with
      | some r =>
        if s.arr.lastSafe && !r.mac.level && (s.seq.wait.open_ || s.seq.wait == .check) then some (l, s.cycle - 1) else none
      | none =>
        if s.arr.check.isNone && s.seq.wait.open_ then some (l, if s.arr.lastSafe then s.cycle - 1 else s.cycle) else none

/-- The interrupt on line `l` is taken, cycle 0 being `c0`; a macro in issue is suspended (R257, R268, R273). G and M are those that the
macro's words so far have left; what a ROM routine may hold in them meanwhile (R293) does not show (DESIGN CHOICE, log entry 118). -/
def State.takeInterrupt (s : State) (l c0 : Nat) : State :=
  let w := s.seq.isec.getLsbD l
  match s.arr.run with
  | some r =>
    if s.seq.depth = 15 then s.enterTrap c0 (16 + l) (some l) w s.seq.pc s.seq.pc false
    else
      (s.enterTrap c0 (16 + l) (some l) w s.seq.pc s.seq.pc true).mapArr (fun a => { a with
        run := none, susp := some r, suspDepth := s.seq.depth + 1,
        inject := saveWords, broken := if r.patched || r.issued = 0 then none else some (r.mac, s.seq.world) })
  | none => s.enterTrap c0 (16 + l) (some l) w s.seq.pc s.seq.pc false

/-- The interrupt due is taken; nothing where none is. -/
def State.takeDue (s : State) : State :=
  match s.interruptDue with
  | some (l, c0) => s.takeInterrupt l c0
  | none => s

/-! ### Issue of an instruction -/

/-- Scalar issue goes on. -/
def State.issuing (s : State) : Bool := s.running && s.seq.wait == .none

/-- R169, R194: array cycles until scalar issue is free; an instruction that reads the value loaded just before waits one
more, unless an interrupt is due before it. The PC enters its energy section (R507). -/
def State.toIssue (s : State) (srcs : List Nat) : State :=
  let s1 := s.enterSection.ticks (s.seq.freeAt - s.cycle)
  match s1.seq.loaded with
  | some r => if srcs.contains r.toNat && s1.interruptDue.isNone then s1.tick else s1
  | none => s1

/-- R178, R212: causes raised by the fetch itself, and by a fill that met an uncorrectable word (DESIGN CHOICE, log entry 95). -/
def State.fetchCauses (s : State) : List Nat :=
  (if s.smem.imemBad.contains s.seq.pc.toNat || s.seq.fillErr = 1 then [0x0C] else [])
    ++ (if !s.seq.world && s.seq.isecBase.toNat ≤ s.seq.pc.toNat then [0x02] else [])

/-- R255: the lowest of the causes. -/
def lowestCause (l : List Nat) : Option Nat :=
  match l with
  | [] => none
  | a :: r => some (r.foldl min a)

/-- One instruction: nothing where scalar issue is held (DEDUCED, log entry 1), or where a fault stops it before its issue cycle; an
interrupt that is due at its boundary is taken in its place (R255), and the instruction issues again after RTT; else its issue
cycle, then the trap of the lowest cause it raises, or its effect. `note` records what the trap leaves beside its entry. -/
def State.instrNote (s : State) (srcs : List Nat) (causes : State → List Nat) (note : Nat → State → State)
    (body : State → State) : State :=
  if !s.issuing then s
  else
    let t := s.toIssue srcs
    if !t.issuing then t
    else if t.interruptDue.isSome then t.takeDue
    else
      match lowestCause (t.fetchCauses ++ causes t) with
      | some c => (note c t).trap c
      | none => body t

/-- One instruction whose traps record nothing more. -/
def State.instr (s : State) (srcs : List Nat) (causes : State → List Nat) (body : State → State) : State :=
  s.instrNote srcs causes (fun _ t => t) body

/-- R168, R248: PC and the repeat counter past one execution of the instruction at PC. -/
def Seq.advance (q : Seq) : Seq :=
  if q.rptc = 0 then { q with pc := q.pc + 1 }
  else { q with rptc := q.rptc - 1, pc := if q.rptc = 1 then q.pc + 1 else q.pc }

/-- The instruction is done: PC moves on and the next may issue `n` cycles later (R169). -/
def State.retire (s : State) (n : Nat) : State :=
  s.mapSeq (fun q => { q.advance with freeAt := s.cycle + n, loaded := none })

/-- A jump (R189): the next instruction issues `n` cycles later at `a`. -/
def State.jumpTo (s : State) (a : BitVec 18) (n : Nat) : State :=
  s.mapSeq (fun q => { q with pc := a, freeAt := s.cycle + n, loaded := none })

/-- An instruction that only computes on the sequencer's registers. -/
def State.simple (s : State) (srcs : List Nat) (legal : Bool) (n : State → Nat) (f : Seq → Seq) : State :=
  s.instr srcs (fun _ => if legal then [] else [0x01]) (fun t => (t.mapSeq f).retire (n t))

/-! ### Return (R262) -/

/-- R262: what RTT restores. -/
def Seq.leave (q : Seq) : Seq :=
  let d8 := dGet q 8
  let d10 := dGet q 10
  { q with
    pc := d8.extractLsb' 0 18, cr := (dGet q 13).extractLsb' 0 5, priv := d10.getLsbD 3, ie := d10.getLsbD 4,
    locked := d10.getLsbD 5, world := q.world && d10.getLsbD 2, ilvl := fld d10 9 5, depth := q.depth - 1, tw := false,
    rptc := dGet q 12, loaded := none }

/-- R262, R277, R278: RTT, after its three issue cycles; a locked section that it returns into runs stretched where the clock is
(R30, R538). The restore routine follows the words already queued (DESIGN CHOICE, log entry 119). -/
def State.returnTrap (s : State) : State :=
  let q := s.seq
  let msusp := (dGet q 10).getLsbD 8
  let s1 := s.mapSeq (fun q => { q.leave with freeAt := s.cycle, tl := q.tl || (q.leave.locked && s.stretching) })
  match s.arr.susp with
  | none => s1
  | some r =>
    if msusp then
      (s1.mapArr (fun a => { a with susp := none, run := some r, inject := a.inject ++ restoreWords })).mapSeq (fun q => { q with
        wait := if r.mac.checked then .check else q.wait })
    else if q.depth = s.arr.suspDepth then s1.mapArr (fun a => { a with susp := none })
    else s1

end Sys2Proof.Machine
end

