-- ==== Sys2Proof/Machine/Integer.lean ====
section
/-! DEFINITION. The scalar integer and accumulator instructions (R182, R184, R185, R312 to R319). -/

namespace Sys2Proof.Machine

/-- An operand field that must be 0 (R165). -/
def unused (r : Nat) : Bool := r == 0

/-- R160, R165: the operand bits of a format RRR instruction whose fields accept `d`, `a`, `b`, `c`. -/
def legalRRR (d a b c : Nat → Bool) (w : BitVec 40) : Bool :=
  d (fRd w) && a (fRs1 w) && b (fRs2 w) && c (fRs3 w) && fld w 0 16 == 0

/-- The same for format RRI. -/
def legalRRI (d a : Nat → Bool) (w : BitVec 40) : Bool := d (fRd w) && a (fRs1 w) && fld w 24 4 == 0

/-- R161, R182: a result reaches its register; the flags change for a D destination only. -/
def Seq.result (q : Seq) (d : Nat) (x : Alu) : Seq :=
  let q1 := daSet q d x.value
  if isD d then { q1 with cr := x.cr } else q1

/-- d := f(s1, s2), one issue cycle, under legality `ok`. -/
def State.aluRR (s : State) (w : BitVec 40) (ok : Bool) (f : BitVec 5 → Word → Word → Alu) : State :=
  s.simple [fRs1 w, fRs2 w] ok (fun _ => 1)
    (fun q => q.result (fRd w) (f q.cr (daGet q (fRs1 w)) (daGet q (fRs2 w))))

/-- d := f(s1, imm), one issue cycle. -/
def State.aluRI (s : State) (w : BitVec 40) (f : BitVec 5 → Word → Word → Alu) : State :=
  s.simple [fRs1 w] (legalRRI isDA isDA w) (fun _ => 1)
    (fun q => q.result (fRd w) (f q.cr (daGet q (fRs1 w)) (fImm w)))

/-- A three-register operation of D and A registers. -/
def State.alu3 (s : State) (w : BitVec 40) (f : BitVec 5 → Word → Word → Alu) : State :=
  s.aluRR w (legalRRR isDA isDA isDA unused w) f

/-- A two-register operation of D and A registers. -/
def State.alu2 (s : State) (w : BitVec 40) (f : BitVec 5 → Word → Alu) : State :=
  s.simple [fRs1 w] (legalRRR isDA isDA unused unused w) (fun _ => 1)
    (fun q => q.result (fRd w) (f q.cr (daGet q (fRs1 w))))

/-- A move: no flag changes (R182). -/
def State.moveTo (s : State) (w : BitVec 40) (srcs : List Nat) (ok : Bool) (f : Seq → Word) : State :=
  s.simple srcs ok (fun _ => 1) (fun q => daSet q (fRd w) (f q))

/-- Operations as functions of the flags and the operands. -/
def opAdd (r : BitVec 5) (x y : Word) : Alu := addWith r x y false
def opAdc (r : BitVec 5) (x y : Word) : Alu := addWith r x y (crC r)
def opSub (r : BitVec 5) (x y : Word) : Alu := subWith r x y true
def opSbc (r : BitVec 5) (x y : Word) : Alu := subWith r x y (crC r)
def opAnd (r : BitVec 5) (x y : Word) : Alu := logicOf r (x &&& y)
def opOr (r : BitVec 5) (x y : Word) : Alu := logicOf r (x ||| y)
def opXor (r : BitVec 5) (x y : Word) : Alu := logicOf r (x ^^^ y)
/-- R167, R319: the count is the full unsigned value of the operand. -/
def opShift (f : BitVec 5 → Word → Nat → Alu) (r : BitVec 5) (x y : Word) : Alu := f r x y.toNat

/-- NOP. -/
def execNop (w : BitVec 40) (s : State) : Host.Outcome State Fault Refusal :=
  .next (s.simple [] (legalRRR unused unused unused unused w) (fun _ => 1) id)
/-- MOV. -/
def execMov (w : BitVec 40) (s : State) : Host.Outcome State Fault Refusal :=
  .next (s.moveTo w [fRs1 w] (legalRRR isDA isDA unused unused w) (fun q => daGet q (fRs1 w)))
/-- MOVI. -/
def execMovi (w : BitVec 40) (s : State) : Host.Outcome State Fault Refusal :=
  .next (s.moveTo w [] (legalRRI isDA unused w) (fun _ => fImm w))
/-- ADD. -/
def execAdd (w : BitVec 40) (s : State) : Host.Outcome State Fault Refusal := .next (s.alu3 w opAdd)
/-- ADDI. -/
def execAddi (w : BitVec 40) (s : State) : Host.Outcome State Fault Refusal := .next (s.aluRI w opAdd)
/-- SUB. -/
def execSub (w : BitVec 40) (s : State) : Host.Outcome State Fault Refusal := .next (s.alu3 w opSub)
/-- SUBI. -/
def execSubi (w : BitVec 40) (s : State) : Host.Outcome State Fault Refusal := .next (s.aluRI w opSub)
/-- ADC. -/
def execAdc (w : BitVec 40) (s : State) : Host.Outcome State Fault Refusal := .next (s.alu3 w opAdc)
/-- SBC. -/
def execSbc (w : BitVec 40) (s : State) : Host.Outcome State Fault Refusal := .next (s.alu3 w opSbc)
/-- AND. -/
def execAnd_ (w : BitVec 40) (s : State) : Host.Outcome State Fault Refusal := .next (s.alu3 w opAnd)
/-- ANDI. -/
def execAndi (w : BitVec 40) (s : State) : Host.Outcome State Fault Refusal := .next (s.aluRI w opAnd)
/-- OR. -/
def execOr_ (w : BitVec 40) (s : State) : Host.Outcome State Fault Refusal := .next (s.alu3 w opOr)
/-- ORI. -/
def execOri (w : BitVec 40) (s : State) : Host.Outcome State Fault Refusal := .next (s.aluRI w opOr)
/-- XOR. -/
def execXor (w : BitVec 40) (s : State) : Host.Outcome State Fault Refusal := .next (s.alu3 w opXor)
/-- XORI. -/
def execXori (w : BitVec 40) (s : State) : Host.Outcome State Fault Refusal := .next (s.aluRI w opXor)
/-- NOT. -/
def execNot_ (w : BitVec 40) (s : State) : Host.Outcome State Fault Refusal :=
  .next (s.alu2 w (fun r x => logicOf r (~~~x)))
/-- NEG. -/
def execNeg (w : BitVec 40) (s : State) : Host.Outcome State Fault Refusal := .next (s.alu2 w negOf)
/-- ABS. -/
def execAbs (w : BitVec 40) (s : State) : Host.Outcome State Fault Refusal := .next (s.alu2 w absOf)
/-- CMP (R182). -/
def execCmp (w : BitVec 40) (s : State) : Host.Outcome State Fault Refusal :=
  .next (s.simple [fRs1 w, fRs2 w] (legalRRR unused isDA isDA unused w) (fun _ => 1)
    (fun q => { q with cr := (opSub q.cr (daGet q (fRs1 w)) (daGet q (fRs2 w))).cr }))
/-- CMPI (R182). -/
def execCmpi (w : BitVec 40) (s : State) : Host.Outcome State Fault Refusal :=
  .next (s.simple [fRs1 w] (legalRRI unused isDA w) (fun _ => 1)
    (fun q => { q with cr := (opSub q.cr (daGet q (fRs1 w)) (fImm w)).cr }))
/-- SHL. -/
def execShl (w : BitVec 40) (s : State) : Host.Outcome State Fault Refusal := .next (s.alu3 w (opShift shlOf))
/-- SHLI. -/
def execShli (w : BitVec 40) (s : State) : Host.Outcome State Fault Refusal := .next (s.aluRI w (opShift shlOf))
/-- SHR. -/
def execShr (w : BitVec 40) (s : State) : Host.Outcome State Fault Refusal := .next (s.alu3 w (opShift shrOf))
/-- SHRI. -/
def execShri (w : BitVec 40) (s : State) : Host.Outcome State Fault Refusal := .next (s.aluRI w (opShift shrOf))
/-- SAR. -/
def execSar (w : BitVec 40) (s : State) : Host.Outcome State Fault Refusal := .next (s.alu3 w (opShift sarOf))
/-- SARI. -/
def execSari (w : BitVec 40) (s : State) : Host.Outcome State Fault Refusal := .next (s.aluRI w (opShift sarOf))
/-- SAL. -/
def execSal (w : BitVec 40) (s : State) : Host.Outcome State Fault Refusal := .next (s.alu3 w (opShift salOf))
/-- SALI. -/
def execSali (w : BitVec 40) (s : State) : Host.Outcome State Fault Refusal := .next (s.aluRI w (opShift salOf))
/-- ROL. -/
def execRol (w : BitVec 40) (s : State) : Host.Outcome State Fault Refusal := .next (s.alu3 w (opShift rolOf))
/-- ROLI. -/
def execRoli (w : BitVec 40) (s : State) : Host.Outcome State Fault Refusal := .next (s.aluRI w (opShift rolOf))
/-- ROR. -/
def execRor (w : BitVec 40) (s : State) : Host.Outcome State Fault Refusal := .next (s.alu3 w (opShift rorOf))
/-- RORI. -/
def execRori (w : BitVec 40) (s : State) : Host.Outcome State Fault Refusal := .next (s.aluRI w (opShift rorOf))

/-! ### Multiply and divide -/

/-- R312, R313: issue cycles of a multiply with the multiplier s2. -/
def mulIssue (signed : Bool) (w : BitVec 40) (t : State) : Nat :=
  mulCycles t.seq.locked signed (daGet t.seq (fRs2 w))

/-- A multiply into an accumulator: `acc` adds to it (R315). -/
def State.mulAc (s : State) (w : BitVec 40) (signed acc : Bool) : State :=
  s.simple ([fRs1 w, fRs2 w] ++ (if acc then [fRd w] else [])) (legalRRR isAC isDA isDA unused w) (mulIssue signed w)
    (fun q =>
      let p := if signed then mulS (daGet q (fRs1 w)) (daGet q (fRs2 w)) else mulU (daGet q (fRs1 w)) (daGet q (fRs2 w))
      acTo q (fRd w) (if acc then acOf q (fRd w) + p else p))

/-- MULL (R314). -/
def execMull (w : BitVec 40) (s : State) : Host.Outcome State Fault Refusal :=
  .next (s.simple [fRs1 w, fRs2 w] (legalRRR isDA isDA isDA unused w) (mulIssue false w)
    (fun q => q.result (fRd w) (logicOf q.cr (daGet q (fRs1 w) * daGet q (fRs2 w)))))
/-- MULU. -/
def execMulu (w : BitVec 40) (s : State) : Host.Outcome State Fault Refusal := .next (s.mulAc w false false)
/-- MULS. -/
def execMuls (w : BitVec 40) (s : State) : Host.Outcome State Fault Refusal := .next (s.mulAc w true false)
/-- MACU (R315). -/
def execMacu (w : BitVec 40) (s : State) : Host.Outcome State Fault Refusal := .next (s.mulAc w false true)
/-- MACS (R315). -/
def execMacs (w : BitVec 40) (s : State) : Host.Outcome State Fault Refusal := .next (s.mulAc w true true)

/-- R185: an even-numbered D register. -/
def isEvenD (r : Nat) : Bool := isD r && r % 2 == 0

/-- R316, R317: a divide: quotient to d, remainder to d + 1, V and D of SEQ_CR. -/
def State.divide (s : State) (w : BitVec 40) (signed : Bool) : State :=
  s.simple [fRs1 w, fRs2 w] (legalRRR isEvenD isDA isDA unused w) (fun _ => 10)
    (fun q =>
      let x := daGet q (fRs1 w)
      let y := daGet q (fRs2 w)
      let r := if signed then divS x y else divU x y
      let v := signed && x == 0x800000 && y == BitVec.allOnes 24
      { dSet (dSet q (fRd w) r.1) (fRd w + 1) r.2 with cr := divCr q.cr v (y == 0) })

/-- DIVU (R316). -/
def execDivu (w : BitVec 40) (s : State) : Host.Outcome State Fault Refusal := .next (s.divide w false)
/-- DIVS (R316). -/
def execDivs (w : BitVec 40) (s : State) : Host.Outcome State Fault Refusal := .next (s.divide w true)

/-! ### Accumulator parts (R185) -/

/-- ACRD. -/
def execAcrd (w : BitVec 40) (s : State) : Host.Outcome State Fault Refusal :=
  .next (s.moveTo w [fRs1 w] (legalRRI isDA isAC w && fld w 0 24 ≤ 2)
    (fun q => (acOf q (fRs1 w)).extractLsb' (24 * fld w 0 24) 24))
/-- ACWR (R233). -/
def execAcwr (w : BitVec 40) (s : State) : Host.Outcome State Fault Refusal :=
  .next (s.simple [fRs1 w, fRd w] (legalRRI isAC isDA w && fld w 0 24 ≤ 2) (fun _ => 1)
    (fun q => acTo q (fRd w) (setFld (acOf q (fRd w)) (24 * fld w 0 24) 24 (daGet q (fRs1 w)).toNat)))
/-- ACCLR (R234). -/
def execAcclr (w : BitVec 40) (s : State) : Host.Outcome State Fault Refusal :=
  .next (s.simple [] (legalRRR isAC unused unused unused w) (fun _ => 1) (fun q => acClean q (fRd w - 48)))

end Sys2Proof.Machine
end

