-- ==== Sys2Proof/Machine/Control.lean ====
section
/-! DEFINITION. Control flow, windows, repeat, locked sections, gates, traps and interrupts as commands (R188 to R192, R206 to
R214, R227 to R273), and the spiller's events. -/

namespace Sys2Proof.Machine

/-! ### Branches (R183, R189) -/

/-- An instruction of format RRR with no operand. -/
def legalBare (w : BitVec 40) : Bool := legalRRR unused unused unused unused w

/-- B (R183, R189). -/
def execB (w : BitVec 40) (s : State) : Host.Outcome State Fault Refusal :=
  .next (s.instr [] (fun _ => if fCond w ≤ 17 && fld w 18 17 == 0 then [] else [0x01]) (fun t =>
    if condTrue (fCond w) t.seq.cr (t.gorAt t.cycle t.seq.world) then t.jumpTo (fTarget w) 2 else t.retire 1))

/-- D31 := PC + 1, then a jump. -/
def State.callTo (s : State) (a : BitVec 18) : State :=
  (s.mapSeq (fun q => dSet q 31 ((q.pc + 1).setWidth 24))).jumpTo a 2

/-- CALL. -/
def execCall (w : BitVec 40) (s : State) : Host.Outcome State Fault Refusal :=
  .next (s.instr [] (fun _ => if fCond w == 0 && fld w 18 17 == 0 then [] else [0x01]) (fun t => t.callTo (fTarget w)))
/-- CALLR (R742). -/
def execCallr (w : BitVec 40) (s : State) : Host.Outcome State Fault Refusal :=
  .next (s.instr [fRs1 w] (fun _ => if legalRRR unused isDA unused unused w then [] else [0x01])
    (fun t => t.callTo ((daGet t.seq (fRs1 w)).extractLsb' 0 18)))
/-- JMP (R742). -/
def execJmp (w : BitVec 40) (s : State) : Host.Outcome State Fault Refusal :=
  .next (s.instr [fRs1 w] (fun _ => if legalRRR unused isDA unused unused w then [] else [0x01])
    (fun t => t.jumpTo ((daGet t.seq (fRs1 w)).extractLsb' 0 18) 2))
/-- RET. -/
def execRet (w : BitVec 40) (s : State) : Host.Outcome State Fault Refusal :=
  .next (s.instr [15] (fun _ => if legalBare w then [] else [0x01])
    (fun t => t.jumpTo ((dGet t.seq 15).extractLsb' 0 18) 2))
/-- RETL. -/
def execRetl (w : BitVec 40) (s : State) : Host.Outcome State Fault Refusal :=
  .next (s.instr [31] (fun _ => if legalBare w then [] else [0x01])
    (fun t => t.jumpTo ((dGet t.seq 31).extractLsb' 0 18) 2))

/-! ### Register windows (R227 to R241) -/

/-- R229, R234, R241: a frame is pushed. -/
def Seq.pushFrame (q : Seq) : Seq :=
  let t := (q.top.val + 1) % 12
  let o := (q.top.val + 2) % 12
  let q1 := [winGroup t 2, winGroup t 3, winGroup o 0, winGroup o 1].foldl cleanGroup q
  { q1 with top := q.top + 1, res := q.res + 1, frameWorlds := q.world :: q.frameWorlds }

/-- R229: the top frame is popped. -/
def Seq.popFrame (q : Seq) : Seq := { q with top := q.top + 11, res := q.res - 1, frameWorlds := q.frameWorlds.drop 1 }

/-- R231: a wait for the spiller, which sets TIMING_LOST in a locked section. -/
def State.awaitSpiller (s : State) (x : Wait) : State :=
  s.mapSeq (fun q => { q with wait := x, tl := q.tl || q.locked, loaded := none })

/-- The record being moved is of the kind `fill`. -/
def Seq.moving (q : Seq) (fill : Bool) : Bool := match q.job with | some j => j.fill == fill | none => false

/-- SAVE at its issue (R230, R240, R241). -/
def State.save (s : State) : State :=
  let q := s.seq
  if q.res ≤ 10 then (s.mapSeq Seq.pushFrame).retire 1
  else if q.moving false then s.awaitSpiller .save
  else if q.spillBarred then s.trap 0x02
  else if q.stackFull then s.trap 0x03
  else s.awaitSpiller .save

/-- RESTORE at its issue (R230, R240). -/
def State.restore (s : State) : State :=
  let q := s.seq
  if 2 ≤ q.res then (s.mapSeq Seq.popFrame).retire 1
  else if q.moving true then s.awaitSpiller .restore
  else if q.stackEmpty then s.trap 0x04
  else s.awaitSpiller .restore

/-- SAVE (R229, R230); a window fault in the trap window (R261). -/
def execSave (w : BitVec 40) (s : State) : Host.Outcome State Fault Refusal :=
  .next (s.instr [] (fun _ => if legalBare w then [] else [0x01])
    (fun t => if t.seq.tw then t.haltFault 0x05 t.seq.pc else t.save))
/-- RESTORE (R229, R230); a window fault in the trap window (R261). -/
def execRestore (w : BitVec 40) (s : State) : Host.Outcome State Fault Refusal :=
  .next (s.instr [] (fun _ => if legalBare w then [] else [0x01])
    (fun t => if t.seq.tw then t.haltFault 0x05 t.seq.pc else t.restore))

/-- R239: array cycles until the record in progress, or one that is to begin, has moved. -/
def State.untilMoved (s : State) : State :=
  let t := s.tickUntil (fun t => t.seq.job.isSome) 2
  t.tickUntil (fun t => t.seq.job.isNone) 64

/-- The same for a stalled SAVE or RESTORE, which a due interrupt ends (R255, R270). -/
def State.untilMovedOrDue (s : State) : State :=
  let t := s.tickUntil (fun t => t.seq.job.isSome || t.interruptDue.isSome) 2
  t.tickUntil (fun t => t.seq.job.isNone || t.interruptDue.isSome) 64

/-- STALLED_SAVE_EXECUTE (R230): once the spiller has spilled, the SAVE executes, or traps when it cannot (R240, R241). -/
def State.stalledSave (s : State) : State :=
  if s.running && s.seq.wait == .save then
    let t := if s.seq.res ≤ 10 then s else s.untilMovedOrDue
    let u := t.mapSeq (fun q => { q with wait := .none })
    if t.interruptDue.isSome then t.takeDue
    else if u.seq.res ≤ 10 || u.seq.spillBarred || u.seq.stackFull then u.save else t
  else s

/-- STALLED_RESTORE_EXECUTE (R230); trap 0x0C where the record that it waits for cannot be read (R178). -/
def State.stalledRestore (s : State) : State :=
  if s.running && s.seq.wait == .restore then
    let t := if 2 ≤ s.seq.res then s else s.untilMovedOrDue
    let u := t.mapSeq (fun q => { q with wait := .none })
    if t.interruptDue.isSome then t.takeDue
    else if u.seq.res ≤ 1 && u.seq.job.isNone && !u.seq.stackEmpty && u.fillBad then u.trap 0x0C
    else if 2 ≤ u.seq.res || u.seq.stackEmpty then u.restore else t
  else s

def execStalledSaveExecute (s : State) : Host.Outcome State Fault Refusal := .next s.stalledSave
def execStalledRestoreExecute (s : State) : Host.Outcome State Fault Refusal := .next s.stalledRestore

/-- SPILL (R237, R239): the spiller moves the oldest frame to the stack; nothing where none is due. -/
def execSpill (s : State) : Host.Outcome State Fault Refusal :=
  .next (if s.seq.moving false || (s.seq.job.isNone && s.seq.wantsSpill) then s.untilMoved else s)
/-- FILL (R238, R239): the spiller brings the newest record back; nothing where none is due. -/
def execFill (s : State) : Host.Outcome State Fault Refusal :=
  .next (if s.seq.moving true || (s.seq.job.isNone && !s.seq.wantsSpill && s.seq.wantsFill) then s.untilMoved else s)

/-! ### Repeat (R247 to R251) -/

/-- R251: opcodes that REP refuses. -/
def repRefused (op : Nat) : Bool := 0x60 ≤ op && op ≤ 0x71

/-- The opcode after the instruction at PC. -/
def State.nextOpcode (s : State) : Nat := fld (sget 0 s.smem.imem (s.seq.pc + 1).toNat) 40 8

/-- R247, R250: the count is latched; a count of 0 skips the next instruction. -/
def State.repeatNext (s : State) (n : Word) : State :=
  s.mapSeq (fun q => { q with rptc := n, pc := if n = 0 then q.pc + 2 else q.pc + 1, freeAt := s.cycle + 1, loaded := none })

/-- REP. -/
def execRep (w : BitVec 40) (s : State) : Host.Outcome State Fault Refusal :=
  .next (s.instr [] (fun t => (if legalRRI unused unused w then [] else [0x01])
      ++ (if repRefused t.nextOpcode then [0x0E] else [])) (fun t => t.repeatNext (fImm w)))
/-- REPR. -/
def execRepr (w : BitVec 40) (s : State) : Host.Outcome State Fault Refusal :=
  .next (s.instr [fRs1 w] (fun t => (if legalRRR unused isD unused unused w then [] else [0x01])
      ++ (if repRefused t.nextOpcode then [0x0E] else [])) (fun t => t.repeatNext (dGet t.seq (fRs1 w))))

/-! ### Locked sections and WAITB (R190, R206, R209) -/

/-- LOCK; a section that begins while the clock is stretched has lost its timing (R30, R538). -/
def execLock (w : BitVec 40) (s : State) : Host.Outcome State Fault Refusal :=
  .next (s.instr [] (fun t => if legalBare w && !t.seq.locked then [] else [0x01])
    (fun t => (t.mapSeq (fun q => { q with locked := true, tl := q.tl || t.stretching })).retire 1))
/-- UNLOCK. -/
def execUnlock (w : BitVec 40) (s : State) : Host.Outcome State Fault Refusal :=
  .next (s.instr [] (fun t => if legalBare w && t.seq.locked then [] else [0x01])
    (fun t => (t.mapSeq (fun q => { q with locked := false })).retire 1))

/-- WAITB (R190): it waits from its own issue cycle on. -/
def execWaitb (w : BitVec 40) (s : State) : Host.Outcome State Fault Refusal :=
  .next (s.instr [] (fun _ => if legalBare w then [] else [0x01])
    (fun t => (t.mapSeq (fun q => { q with wait := .beat, loaded := none })).tick))

/-- R527: the deadtime policy holds scalar issue at a WAITB. -/
def State.deadHold (s : State) : Bool := s.seq.frkst.getLsbD 20

/-- WAITB_COMPLETE (R190): in the first array cycle of a beat, unless deadtime holds it (R527). -/
def State.waitbComplete (s : State) : State :=
  if s.seq.wait == .beat && s.interruptDue.isSome then s.takeDue
  else if s.running && s.seq.wait == .beat && s.seq.bphase == 0 && !s.deadHold then
    (s.mapSeq (fun q => { q with wait := .none })).retire 0
  else s

def execWaitbComplete (s : State) : Host.Outcome State Fault Refusal := .next s.waitbComplete

/-! ### Gates (R213, R214, R242) -/

/-- SCALL. -/
def execScall (w : BitVec 40) (s : State) : Host.Outcome State Fault Refusal :=
  let n := fld w 0 4
  .next (s.instr [] (fun t => (if legalRRI unused unused w && fld w 4 20 == 0 then [] else [0x01])
      ++ (if t.seq.world || !(sget 0 t.seq.gates n).getLsbD 23 then [0x02] else []))
    (fun t =>
      let u := t.ticks 3
      u.mapSeq (fun q => { q with
        gate := some { ret := q.pc + 1, priv := q.priv, world := q.world, top := q.top },
        world := true, priv := true, pc := (sget 0 q.gates n).extractLsb' 0 18, freeAt := u.cycle, loaded := none })))

/-- SRET. -/
def execSret (w : BitVec 40) (s : State) : Host.Outcome State Fault Refusal :=
  .next (s.instr [] (fun t => (if legalBare w then [] else [0x01])
      ++ (match t.seq.gate with
          | some g => if t.seq.world && g.top == t.seq.top then [] else [0x02]
          | none => [0x02]))
    (fun t =>
      let u := t.ticks 3
      match t.seq.gate with
      | some g => u.mapSeq (fun q => { q with
          gate := none, world := g.world, priv := g.priv, pc := g.ret, freeAt := u.cycle, loaded := none })
      | none => u))

/-! ### Traps, halts, checkpoints -/

/-- A macro that the handler dispatched is issuing (R262). -/
def State.handlerBusy (s : State) : Bool := match s.arr.run with | some r => r.mac.level | none => false

/-- RTT (R262, R263). -/
def execRtt (w : BitVec 40) (s : State) : Host.Outcome State Fault Refusal :=
  .next (s.instr [] (fun t => (if legalBare w && t.seq.tw then [] else [0x01]) ++ (if t.seq.priv then [] else [0x02]))
    (fun t =>
      let u := t.tickUntil (fun u => !u.handlerBusy || u.streamHeld) longest
      if u.running then (u.ticks 3).returnTrap else u))

/-- HALT (R192): once any dispatched macro has completed, scalar issue stops and both hosts hear of it. -/
def execHalt (w : BitVec 40) (s : State) : Host.Outcome State Fault Refusal :=
  .next (s.instr [] (fun t => (if legalBare w then [] else [0x01]) ++ (if t.seq.priv then [] else [0x02]))
    (fun t =>
      let u := t.untilFree
      if u.running then (u.mapSeq (fun q => { q with halted := true })).event 0x05 0 .ok 0 else u))

/-- CHKPT (R191, R702). -/
def execChkpt (w : BitVec 40) (s : State) : Host.Outcome State Fault Refusal :=
  .next (s.instr [] (fun _ => if legalRRI unused unused w then [] else [0x01]) (fun t =>
    (t.mapSys (fun y => { y with
      checkpoint := some (t.seq.pc + 1, fImm w, t.seq.world, t.seq.priv), faulted := false })).retire 1))

/-- The opcodes that the tables of 05 list (R166). -/
def opcodeListed (op : Nat) : Bool :=
  op ≤ 0x29 || (0x30 ≤ op && op ≤ 0x33) || (0x40 ≤ op && op ≤ 0x46) || (0x48 ≤ op && op ≤ 0x4F)
    || (0x60 ≤ op && op ≤ 0x71) || (0x80 ≤ op && op ≤ 0x94) || (0xA0 ≤ op && op ≤ 0xA6) || (0xA8 ≤ op && op ≤ 0xB2)
    || (0xB8 ≤ op && op ≤ 0xC6)

/-- ILLEGAL_INSTRUCTION (R166): trap 0x01. A word whose opcode is listed is no such event. -/
def execIllegalInstruction (i : BitVec 48) (s : State) : Host.Outcome State Fault Refusal :=
  if opcodeListed (fld i 40 8) then .refused .illFormed else .next (s.instr [] (fun _ => [0x01]) id)

/-- INTERRUPT_ENTRY (R267, R268, R272, R354): the line that qualifies is taken at the next instruction boundary that is a safe
point; nothing where none qualifies, where a window access holds scalar issue, or where the macro in issue ends in the hold of
R350. -/
def State.interrupt (s : State) : State :=
  let over_ (u : State) : Bool :=
    u.interruptDue.isSome || u.seq.qualifies.isNone || !u.running || u.streamHeld
      || (u.seq.wait == .check && u.arr.run.isNone)
  (s.tickUntil over_ longest).takeDue

def execInterruptEntry (s : State) : Host.Outcome State Fault Refusal := .next s.interrupt

end Sys2Proof.Machine
end

