-- ==== Sys2Proof/Machine/Modes.lean ====
section
/-! DEFINITION. Modes, power domains, the run-entry state, the start and end of a run, measurements in effect, and what the
three reset levels do (16, 17, 18, 19). -/

namespace Sys2Proof.Machine

/-! ### Tiles (R35, R36, R463, R689) -/

/-- Every plane of a store with the PEs of `e` cleared. -/
def clearPlanes (e : Plane) (m : Sparse Plane) : Sparse Plane :=
  m.filterMap (fun x => if x.2 &&& ~~~e = 0 then none else some (x.1, x.2 &&& ~~~e))

/-- R35: PE registers, inbox, outbox and egress staging of the tiles `ts` at their reset values. -/
def Canvas.clearRegs (c : Canvas) (ts : BitVec 272) : Canvas :=
  let e := tilesPlane ts
  { c with
    a := c.a &&& ~~~e, b := c.b &&& ~~~e, c := c.c &&& ~~~e, g := c.g &&& ~~~e, n := c.n &&& ~~~e, m := c.m ||| e,
    inbox := clearPlanes e c.inbox, stage := clearPlanes e c.stage, written := clearPlanes e c.written,
    outbox := clearPlanes e c.outbox, egress := clearPlanes e c.egress, mark := clearPlanes e c.mark,
    pending := c.pending &&& ~~~e }

/-- R36: memory of the tiles `ts` written with 0 and valid check bits. -/
def Canvas.zeroMem (c : Canvas) (ts : BitVec 272) : Canvas :=
  { c with mem := clearPlanes (tilesPlane ts) c.mem, flips := c.flips.filter (fun f => !ts.getLsbD f.tile) }

/-- Tiles `want` come on, the newly powered ones zeroed; the others go off. `whole` says whether every tile of `want` is
zeroed. -/
def Canvas.powerTiles (c : Canvas) (want : BitVec 272) (whole : Bool) : Canvas :=
  let fresh := if whole then want else want &&& ~~~c.power
  { (c.clearRegs fresh).zeroMem fresh with power := want, zeroing := c.zeroing &&& want &&& ~~~fresh }

/-- Logical tiles in service. -/
def State.inServiceTile (s : State) (l : Nat) : Bool := l / 16 < lrows s.cv.failed

/-- R463, R464: logical tiles powered under the placement in effect. -/
def State.usedTile (s : State) (l : Nat) : Bool :=
  s.inServiceTile l && (match s.sof.effect with | some p => !p.gated.getLsbD l | none => false)

/-- The physical tiles that carry the logical tiles satisfying `p`. -/
def State.physSet (s : State) (p : Nat → Bool) : BitVec 272 :=
  bitsOf 272 (fun t => match logTile s.cv.failed t with | some l => p l | none => false)

/-- Kept planes of the placement in effect. -/
def State.keptPlanes (s : State) : List Nat := match s.sof.effect with | some p => p.kept | none => []

/-- Stack offsets of the ingress table and the image of a logical tile (R462, R704; DESIGN CHOICE, log entry 106). -/
def tableAddr (l : Nat) : Nat := 0xE0000000 + 0x10000 * l
def imageAddr (l : Nat) : Nat := 0xE1000000 + 0x8000 * l

/-- Whether an object of `n` bytes at a stack offset can be read from stack `k` (R575, R579). -/
def State.copyReads (s : State) (k a n : Nat) : Bool :=
  !s.lost k && !s.mem.dramBad.any (fun w => a + k * 2 ^ 32 < 8 * w + 8 && 8 * w < a + k * 2 ^ 32 + n)

/-- R706: the copy an object is read from: the lower stack's, else the other's; none when both fail. -/
def State.copyOf (s : State) (a n : Nat) : Option SortCopy :=
  if s.copyReads 0 a n then some s.sof.lower else if s.copyReads 2 a n then some s.sof.upper else none

/-- R575, R706: firmware reads an object, whose errors its reads count: the copy it comes from, and the state after. -/
def State.readObject (s : State) (a n : Nat) : Option SortCopy × State :=
  let low := if s.lost 0 then (Status.routeFault, [], s) else s.dramRead a n
  if low.1 = .ok then (some s.sof.lower, low.2.2)
  else
    let high := if s.lost 2 then (Status.routeFault, [], low.2.2) else low.2.2.dramRead (a + 2 * 2 ^ 32) n
    (if high.1 = .ok then some s.sof.upper else none, high.2.2)

/-- R578: firmware writes objects at the stack offsets that satisfy `p` to both copies, and the words they lie in are good again. -/
def State.objectsWritten (s : State) (p : Nat → Bool) : State :=
  let gone (w : Nat) : Bool := (8 * w / 2 ^ 32 == 0 || 8 * w / 2 ^ 32 == 2) && p (8 * w % 2 ^ 32)
  s.mapMem (fun m => { m with dramBad := m.dramBad.filter (fun w => !gone w), dramSingle := m.dramSingle.filter (fun w => !gone w) })

/-- The copies that hold a tile's table and image, where both can be read. -/
def State.tileCopies (s : State) (l : Nat) : Option (SortCopy × SortCopy) :=
  match s.copyOf (tableAddr l) 0x10000, s.copyOf (imageAddr l) (512 * s.keptPlanes.length) with
  | some a, some b => some (a, b)
  | _, _ => none

/-- One kept plane of a physical tile is written. -/
def Canvas.keptPut (c : Canvas) (t k : Nat) (v : BitVec 4096) : Canvas :=
  { c with mem := pset c.mem k (tilePut (pget c.mem k) t v), flips := c.flips.filter (fun f => !(f.tile == t && f.addr == k)) }

/-- R460, R472, R691: the logical tiles satisfying `p` take their ingress tables and their images, as the DRAM copies hold them. -/
def State.writeImages (s : State) (p : Nat → Bool) : State :=
  (List.range 256).foldl (fun s l =>
    match physTile s.cv.failed l with
    | some t =>
      if p l then
        let (a, u) := s.readObject (tableAddr l) 0x10000
        let (b, v) := u.readObject (imageAddr l) (512 * s.keptPlanes.length)
        match a, b with
        | some a, some b =>
          s.keptPlanes.foldl (fun s k => s.mapCv (fun c => c.keptPut t k (sget 0 b.images (4096 * l + k))))
            { v with dn := { v.dn with tables := sput [] v.dn.tables l (sget [] a.tables l) } }
        | _, _ => v
      else s
    | none => s) s

/-! ### Power domains (R685 to R689, R511) -/

/-- Power of the domains that are not tiles. -/
def State.domain (s : State) (d : Nat) : Bool := if d < 272 then s.cv.power.getLsbD d else s.sys.on.getLsbD d
def State.setDomain (s : State) (d : Nat) (b : Bool) : State :=
  if d < 272 then s.mapCv (fun c => { c with power := setBit c.power d b, zeroing := setBit c.zeroing d false })
  else s.mapSys (fun y => { y with on := setBit y.on d b })

/-- The switched domain an NI lies in (R543, R685); none for the always-on domain. -/
def niDomain (n : Nat) : Option Nat :=
  if n < 16 then some 353
  else if n < 32 then some (328 + (n - 16) / 4)
  else if n < 48 then some (332 + (n - 32))
  else if n < 64 then some (312 + (n - 48))
  else if n < 100 then some (272 + (n - 64))
  else if n < 102 then some (355 + (n - 100))
  else if n < 106 then some (348 + (n - 102))
  else if n = 106 then some 352
  else if n = 107 then some 354
  else if n = 109 then none
  else some 353

/-- The NIs of a domain. -/
def nisOf (d : Nat) : List Nat := (List.range 111).filter (fun n => niDomain n == some d)

/-- The domain is powered and out of reset (R677, R686). -/
def State.domainUp (s : State) (d : Nat) : Bool := s.domain d && !s.sys.held.contains d

def State.niUp (s : State) (n : Nat) : Bool := match niDomain n with | some d => s.domainUp d | none => true

/-- NOC_NICTL_n.OUTST and PEND. -/
def State.outst (s : State) (n : Nat) : Nat := s.rfld bNOC (0x100 + n) 5 5
def State.pend (s : State) (n : Nat) : Nat := s.rfld bNOC (0x100 + n) 0 5
def State.setOutst (s : State) (n v : Nat) : State := s.setRfld bNOC (0x100 + n) 5 5 v
def State.setPend (s : State) (n v : Nat) : State := s.setRfld bNOC (0x100 + n) 0 5 v

/-- NOC_NICTL_n.STATE of a domain's NIs: 1 marks them CLOSING. -/
def State.markNis (s : State) (d v : Nat) : State := (nisOf d).foldl (fun s n => s.setRfld bNOC (0x100 + n) 20 2 v) s

/-- R566: nothing that a domain's NIs have accepted or asked for is still to be completed. -/
def State.quietNis (s : State) (d : Nat) : Bool :=
  (nisOf d).all (fun n => s.outst n == 0 && s.pend n == 0 && (sget [] s.noc.arrived n).isEmpty)

/-- R566: the closing procedure is over: every NI is CLOSING and quiet. -/
def State.closed (s : State) (d : Nat) : Bool := (nisOf d).all (fun n => s.rfld bNOC (0x100 + n) 20 2 == 1) && s.quietNis d

/-- R676: the clock-good that gates the release of domain `d`: that of the Canvas, NoC or DRAM PLL, or of a host port's PCIe PLL
(DEDUCED, log entry 110). -/
def State.clockGood (s : State) (d : Nat) : Bool :=
  if d < 272 || d = 352 then (s.reg bCLK 0).getLsbD 22
  else if 328 ≤ d && d < 332 then (s.reg bCLK 0).getLsbD 20
  else if d = 355 then s.sys.pa.pll
  else if d = 356 then s.sys.pb.pll
  else (s.reg bCLK 0).getLsbD 21

/-- R675, R677: a domain that comes on cannot be released yet: its clock is not good. -/
def State.unready (s : State) (d : Nat) : Bool := s.sys.noClock.contains d || !s.clockGood d

/-- R675, R686: of the domains that `t` powers and `s` does not, those whose clock is not good stay in reset. -/
def State.holdNew (s t : State) : State :=
  let fresh := (List.range 357).filter (fun d => t.domain d && !s.domain d && t.unready d)
  t.mapSys (fun y => { y with held := y.held.filter (fun d => t.domain d) ++ fresh, noClock := y.noClock.filter (fun d => !t.domain d) })

def State.setLaneState (s : State) (l st : Nat) : State := s.setRfld (lqBlk l) (8 + l % 4) 20 2 st
def State.lane (s : State) (l : Nat) : Lane := sget Lane.reset s.lanes l
def State.setLane (s : State) (l : Nat) (v : Lane) : State := { s with lanes := sput Lane.reset s.lanes l v }

/-- R368: a lane changes state: CHG, line 3, and the firmware event of its quad. -/
def State.laneMove (s : State) (l st : Nat) : State :=
  if s.laneState l = st then s
  else
    let t := (s.setLaneState l st).setRfld (lqBlk l) (8 + l % 4) 23 1 1
    ((t.raiseLine 3).event 0x01 (l / 4) .ok (lqBlk l))

/-- A lane at the start of acquisition, or disabled when its quad is off or EN is 0 (R365). Nothing of its link remains but the state of
the two codings, which run on while the lane is enabled (R357). -/
def State.laneRestart (s : State) (l : Nat) (on : Bool) : State :=
  let st := if on && s.laneEn l then 1 else 0
  let x := s.lane l
  let fresh := if st = 1 && s.laneState l ≠ 0 then { Lane.reset with rx := x.rx, tx := x.tx, line := x.line } else Lane.reset
  let t := (s.laneMove l st).setLane l fresh
  ((t.setRfld (lqBlk l) (8 + l % 4) 22 1 0).setRfld (lqBlk l) (8 + l % 4) 18 2 0)

/-- R687: every Tweed region goes OFF, an ACTIVE one with its configuration retained. -/
def State.tweedOff (s : State) : State :=
  (List.range 16).foldl (fun s r =>
    let keep := s.rstate r = 3 || (s.rstate r = 0 && s.tw.retained.getLsbD r)
    let t := s.setRstate r 0
    ((if keep then t else (t.blankConfig r).dropRam r).quietRegion r).mapTw (fun t => { t with retained := setBit t.retained r keep })) s

/-- R687: a retained region returns to ACTIVE through R427, flip-flops at their initial values, once its domain is released. -/
def State.reviveRegion (s : State) (r : Nat) : State :=
  if s.rstate r = 0 && s.tw.retained.getLsbD r && !s.unready (312 + r) then
    ((s.setRstate r 3).mapTw (fun t => { t with retained := setBit t.retained r false })).driveRegion r
  else s

/-- R423, R511: a load names a region that is OFF, which returns to BLANK. -/
def State.ungateRegion (s : State) (r : Nat) : State :=
  if s.rstate r = 0 && !s.tw.retained.getLsbD r then (s.setRstate r 1).setDomain (312 + r) true else s

/-- R423, R511, R687: retained regions return to ACTIVE, and those that a staged load names to BLANK; the others stay OFF. -/
def State.tweedOn (s : State) : State :=
  (tweedRegions (sget [] s.sys.staged 2)).foldl State.ungateRegion ((List.range 16).foldl State.reviveRegion s)

/-- Domains 272 to 356 powered in a mode (R511, R688, R689). -/
def State.domainsFor (s : State) (m : Mode) : BitVec 357 :=
  if s.sys.shutdown then 0 else
  let awake := m != .sleep
  let work := awake && m != .standby
  let x16 := (s.reg bRST 1).getLsbD 2
  bitsOf 357 (fun d =>
    if d < 272 then false
    else if d < 308 then work && (List.range 4).any (fun k => s.laneEn (4 * (d - 272) + k))
    else if d < 312 then work && (List.range 4).any (fun k => (s.reg bOUT (0x010 + 4 * (d - 308) + k)).getLsbD 23)
    else if d < 328 then work && (s.rstate (d - 312) != 0 || s.tw.retained.getLsbD (d - 312))
    else if d < 348 then awake
    else if d < 352 then awake && s.sys.coresUp.getLsbD (d - 348)
    else if d = 352 then work
    else if d < 355 then awake
    else if d = 355 then s.sys.pa.link
    else s.sys.pb.link && !x16)

/-- R365: lanes follow the power of their quads. -/
def State.lanesFollow (s : State) : State :=
  (List.range 144).foldl (fun s l =>
    let on := s.domainUp (272 + l / 4)
    if (s.laneState l != 0) != (on && s.laneEn l) then s.laneRestart l on else s) s

/-! ### The run-entry state and core logic (R220, R672, R699) -/

/-- The sequencer after a core reset: what has reset level S or above is kept (R223, R280, R672). -/
def Seq.core (q : Seq) : Seq :=
  { Seq.reset with
    rst := q.rst, tl := q.tl, rstart := q.rstart, frkst := q.frkst, isecBase := q.isecBase, dsecBase := q.dsecBase,
    gates := q.gates, stcnt := q.stcnt, sten := q.sten, tvbaseS := q.tvbaseS, hcause := q.hcause, isec := q.isec }

/-- R220: the run-entry values over core-reset values. -/
def Seq.atEntry (q : Seq) (e : RunEntry) : Seq :=
  { q.core with
    pc := e.entry, priv := e.epriv, world := e.eworld, tvbase := e.tvbase, spillBase := e.spBase, spillPtr := e.spBase,
    spillLimit := e.spLimit, fpcsr := e.fpcsr.setWidth 22, imask := e.imask, wctl := e.wctl.setWidth 24,
    frameWorlds := [e.eworld] }

/-- R53, R636: a macro of `s` in issue is abandoned: where its ROM routine has begun, its destination and scratch hold partial values. -/
def State.partRun (s t : State) : State :=
  match s.arr.run with
  | some r => if r.patched || r.issued = 0 then t else t.partResult (t.execTiles s.seq.world) r.mac
  | none => t

/-- R144, R636: the stream carries idle words until every word issued has executed and every reduction has landed. -/
def State.drain (s : State) : State :=
  s.partRun ((s.mapArr (fun a => { a with run := none, susp := none, inject := [], check := none, broken := none })).ticks 64)

/-- Words in the pipeline are lost: a macro whose last word is among them is left in part, as one in issue is. -/
def State.cutWords (s : State) : State :=
  s.partRun (s.arr.pipe.foldl (fun t p => match p.kind with
    | .rom m i n _ => if i = n then t.partResult (t.execTiles (nWT p.bits)) m else t
    | .broken m wt => t.partResult (t.execTiles wt) m
    | _ => t) s)

/-- The array unit, pipeline and counters after a core reset; the patch stays (R672). -/
def State.coreArray (s : State) : State :=
  let t := s.cutWords
  { t with
    arr := { ArrayUnit.reset s.arr.patch with patchBad := s.arr.patchBad },
    red := Reductions.reset, cycle := 0, cv := { t.cv with expect := [], wordErrs := [] } }

/-- The sequencer stands at the run entry point (R220); the stream of words and ISN go on (R131). -/
def State.toEntry (s : State) : State :=
  ((s.mapArr (fun a => { a with run := none, susp := none, suspDepth := 0, inject := [], check := none, broken := none,
                                lastSafe := false })).mapRed (fun r => { r with count := 0, countSecure := false })).mapSeq
    (fun q => { q.atEntry s.sys.entry with cycBase := s.cycle })

/-! ### HOST_MODE -/

/-- HOST_MODE shows a new mode, which sets MODE in each HOST_ISTAT (R610). -/
def State.showMode (s : State) (m : Mode) : State :=
  if s.sys.mode = m then s
  else (s.mapSys (fun y => { y with mode := m })).cause .a 7 |>.cause .b 7

/-- R691: entry to ARMED. -/
def State.arm (s : State) : State :=
  let t := s.mapSys (fun y => { y with accepted := none })
  let t := t.mapCv (fun c => c.powerTiles (t.physSet t.usedTile) true)
  let t := (t.writeImages t.usedTile).tweedOn.showMode .armed
  let t := s.holdNew (t.mapSys (fun y => { y with on := t.domainsFor .armed }))
  t.lanesFollow.toEntry

/-- R687: what a domain that is switched off loses: all but its configuration registers and what the rule names. -/
def State.powerLost (s : State) (d : Nat) : State :=
  if d < 272 then s.mapCv (fun c => c.clearRegs (BitVec.ofNat 272 (2 ^ d)))
  else if 308 ≤ d && d < 312 then
    s.mapOut (fun o => { o with
      coders := o.coders.filter (fun e => e.1 / 4 != d - 308), frames := o.frames.filter (fun e => e.1 / 4 != d - 308) })
  else if 312 ≤ d && d < 328 then
    let r := d - 312
    let keep := s.rstate r = 3 || (s.rstate r = 0 && s.tw.retained.getLsbD r)
    let t := s.setRstate r 0
    ((if keep then t else (t.blankConfig r).dropRam r).quietRegion r).mapTw (fun t => { t with retained := setBit t.retained r keep })
  else if 328 ≤ d && d < 332 then (if s.lost (d - 328) then s else s.setRfld bDRM 1 (2 * (d - 328)) 2 2)
  else if 348 ≤ d && d < 352 then s.mapSys (fun y => { y with cores := y.cores.set (d - 348) Core.reset })
  else if d = 352 then s.coreArray.mapSeq (fun q => q.core)
  else if d = 353 then
    let t := (List.range 111).foldl (fun s n => (s.setOutst n 0).setPend n 0) s
    t.mapNoc (fun x => { x with flights := [], queued := [], arrived := [], tokens := [], office := [], quiesced := [], disabled := [], credits := [],
                                probes := [], received := [] })
  else s

/-- R511, R566, R686: a domain is no longer needed: its NIs are CLOSING from now on, and it goes off once they are quiet, here or at
DOMAIN_GATE. -/
def State.gateOff (s : State) (d : Nat) : State :=
  let t := s.markNis d 1
  if t.quietNis d then
    (((t.powerLost d).markNis d 0).setDomain d false).mapSys (fun y => { y with held := y.held.filter (· != d) })
  else t

/-- R511: the domains that the mode and the enables ask for come on, and the others are gated. -/
def State.repower (s : State) : State :=
  let want := s.domainsFor s.sys.mode
  let t := s.holdNew (s.mapSys (fun y => { y with on := y.on ||| want }))
  let t := (ones want).foldl (fun s d => if 272 ≤ d && d < 308 then s.markNis d 0 else s) t
  ((ones (t.sys.on &&& ~~~want)).foldl State.gateOff t).lanesFollow

/-- The domains, tiles apart, that a transition to mode `m` switches off. -/
def State.leavingOn (s : State) (m : Mode) : List Nat := ones (s.sys.on &&& ~~~s.domainsFor m)

/-- R566, R686: before they are switched off their NIs are marked CLOSING; they are switched off once the closing procedure is over. -/
def State.closeFor (s : State) (m : Mode) (v : Nat) : State := (s.leavingOn m).foldl (fun s d => s.markNis d v) s
def State.closedFor (s : State) (m : Mode) : Bool := (s.leavingOn m).all s.quietNis

/-- R580: a stack in service leaves retention, but in SLEEP. -/
def State.refresh (s : State) (m : Mode) : State :=
  s.setReg bDRM 1 (bitsOf 24 (fun i =>
    let f := fld (s.reg bDRM 1) (2 * (i / 2)) 2
    if i < 8 then (if f = 1 then i % 2 = 0 else m = .sleep && i % 2 = 1) else false))

/-- R689 to R691: a mode transition takes effect. -/
def State.enterMode (s : State) (m : Mode) : State :=
  match m with
  | .armed => s.arm
  | .run => s
  | _ =>
    let t := s.mapSys (fun y => { y with accepted := none, restart := false })
    let quiet := m = .sleep || m = .standby
    let t := if quiet || m = .maintenance then t.drain else t
    let t := if quiet then (t.mapCv (fun c => c.powerTiles 0 false)).tweedOff else t.tweedOn
    let off := t.leavingOn m
    let t := off.foldl (fun s d => (s.powerLost d).markNis d 0) t
    let t := if quiet then t.coreArray.mapSeq (fun q => q.core) else t
    let t := if m = .maintenance then t.setReg bNOC 0 1
      else if s.sys.mode = .maintenance then t.setReg bNOC 0 0 else t
    let t := t.refresh m
    let t := s.holdNew (t.mapSys (fun y => { y with on := t.domainsFor m }))
    (t.lanesFollow).showMode m

/-- R559: a change of NOC_MODE is under way: every NI holds injection. It is one into or out of MAINTENANCE, or the end of start-up. -/
def State.turning (s : State) : Bool :=
  s.noc.leaving || match s.sys.transition with
    | some (m, _) => (m == .maintenance) != (s.sys.mode == .maintenance)
    | none => false

/-- No packet is in the network (R559). -/
def State.netEmpty (s : State) : Bool := s.noc.flights.isEmpty && s.noc.office.isEmpty

/-- R559: start-up has written the route tables: tree mode ends once no packet is in the network. -/
def State.leaveTree (s : State) : State :=
  if s.noc.leaving && s.netEmpty then (s.setReg bNOC 0 0).mapNoc (fun x => { x with leaving := false }) else s

/-! ### Wakes -/

/-- R20, R692: a wake: SLEEP is left for STANDBY; one that arrives on the way into SLEEP takes effect once it is reached. -/
def State.wake (s : State) : State :=
  match s.sys.mode, s.sys.transition with
  | .sleep, none => if s.sys.shutdown then s else s.mapSys (fun y => { y with transition := some (.standby, none) })
  | _, some (.sleep, _) => s.mapSys (fun y => { y with wakeDue := true })
  | _, _ => s

/-! ### Measurements (R420, R665, R667) -/

/-- M_TWEED: the digests of the 16 regions. -/
def State.mTweed (s : State) : BitVec 512 :=
  Config.sha512 ((List.range 16).flatMap (fun r =>
    if s.rstate r = 3 then digestBytes (sget 0 s.tw.digest r) else List.replicate 64 0))

/-- M_PARAM: the images of the powered logical tiles. -/
def State.mParam (s : State) : BitVec 512 :=
  Config.sha512 (((List.range 256).filter s.usedTile).flatMap (fun l =>
    s.keptPlanes.flatMap (fun k => leBytes 512 (sget 0 s.sof.lower.images (4096 * l + k)).toNat)))

/-- M_PROG: the committed array program image. -/
def State.mProg (s : State) : BitVec 512 :=
  match s.committedImage 3 with
  | [] => 0
  | b => Config.sha512 b

/-- M_PATCH (R309). -/
def State.mPatch (s : State) : BitVec 512 := match s.arr.patch with | some p => p.digest | none => 0

/-- M_WORLD: every world register in ascending offset (R667). -/
def State.mWorld (s : State) : BitVec 512 :=
  Config.sha512 (((List.range 0x060).filter (fun o => (0x010 ≤ o && o ≤ 0x01A) || (0x020 ≤ o && o ≤ 0x022)
    || (0x030 ≤ o && o ≤ 0x032) || 0x040 ≤ o)).flatMap (fun o => leBytes 3 (s.reg bSEC o).toNat))

/-- M_PLACE. -/
def State.mPlace (s : State) : BitVec 512 := match s.sof.effect with | some p => p.measure | none => 0

/-- R669: a measurement that changes during a run chains onto its value. -/
def chained (m new : BitVec 512) (pm : BitVec 48) : BitVec 512 :=
  Config.sha512 (digestBytes m ++ digestBytes new ++ leBytes 8 pm.toNat)

/-- R669: a change of one of the run's measurements, while the run is open. -/
def State.chain (s : State) (f : RunRecord → RunRecord) : State :=
  if s.sys.mode = .run then s.mapSys (fun y => { y with record := y.record.map f }) else s

/-! ### The start and end of a run (R19, R489, R636) -/

/-- The run accepted begins at its first beat. -/
def State.beginRun (s : State) (number : Word) : State :=
  let pm := s.postmark
  let r : RunRecord := { number := number, first := pm, last := pm, open_ := true, tl := s.seq.tl, degraded := s.degraded,
                         mTweed := s.mTweed, mPlace := s.mPlace, mProg := s.mProg, mParam := s.mParam,
                         mFw := s.sys.mFw, mPatch := s.mPatch, mWorld := s.mWorld }
  let t := s.mapSys (fun y => { y with accepted := none, record := some r, checkpoint := none, faulted := false })
  let t := t.mapOut (fun o => { o with accHigh := 0, accSeen := 0, pulse := [], fault := !s.sys.faults.isEmpty })
  let t := (t.mapFrk (fun f => { f with run := 0, sections := [], forecast := [], section_ := none, skipped := 0 })).setReg bFRK 7 0
  ((t.showMode .run).enterSection).event 0x0F number.toNat .ok 0

/-- The run's record closes, and its event reports a status; a run that a fault has ended before sends nothing more. -/
def State.closeRun (s : State) (st : Status) : State :=
  let t := s.mapSys (fun y => { y with restart := false })
  match t.sys.record with
  | some r =>
    if r.open_ then
      (t.mapSys (fun y => { y with record := some { r with
        open_ := false, last := s.postmark, tl := r.tl || s.seq.tl, degraded := r.degraded || s.degraded } })).event 0x10 r.number.toNat st 0
    else t
  | none => t

/-- BUSY's FAULT cause stands: a report waits (R492, R698), or the module is out of service (R97, R536). -/
def State.faultHeld (s : State) : Bool := !s.sys.faults.isEmpty || lrows s.cv.failed == 0 || s.sys.shutdown

/-- No recovery is in progress any more, unless another report waits, and the accept pins take the level that ARMED gives
(R489, R492, R698). -/
def State.quietFault (s : State) : State :=
  s.mapOut (fun o => { o with fault := s.faultHeld, accSeen := 0, accHigh := 0, pulse := [] })

/-- Outside RUN a recovery ends with its last step (R492, R698). -/
def State.recoveryOver (s : State) : State := s.mapOut (fun o => { o with fault := s.faultHeld })

/-- The run is over, with the status that its event reports; the device stands in ARMED at the run entry point. -/
def State.endRun (s : State) (st : Status) : State :=
  match s.sys.mode with
  | .run => s.closeRun st |>.quietFault |>.showMode .armed
  | _ => s

/-- R636: the stop of a run from the first array cycle of a beat: stream idle, entries posted are drained by the egress
drain, PE registers cleared, the sequencer at its entry. -/
def State.stopRun (s : State) (st : Status) : State :=
  let t := s.drain
  let t := t.mapCv (fun c => { c.clearRegs (BitVec.allOnes 272) with egress := c.egress, pending := c.pending, mark := c.mark })
  t.toEntry.endRun st

/-! ### Resets (R672, R673) -/

/-- R672: commands in progress end without a reply; a reply that waits for room stays (R620). -/
def State.endCommands (s : State) : State :=
  let t := match s.sys.transition with | some (m, _) => s.closeFor m 0 | none => s
  let t := if s.sof.result.isSome then t.setRfld bSOF 0 23 1 0 else t
  let t := t.mapSys (fun y => { y with
    transition := none, stopping := none, params := none, commit := none, abandoned := [], resetDue := none,
    pa := { y.pa with jobs := [] }, pb := { y.pb with jobs := [] } })
  { t with sof := { t.sof with result := none } }

/-- R672, R673: a core reset: sequencer logic and PE registers; commands in progress end without a reply; the mode is
ARMED if it was RUN. -/
def State.coreReset (s : State) : State :=
  let t := (s.coreArray.mapSeq Seq.core).mapSys (fun y => { y with cores := List.replicate 4 Core.reset })
  let t := t.mapCv (fun c => { c.clearRegs (BitVec.allOnes 272) with side := [] })
  let t := t.endCommands
  match s.sys.mode with
  | .run => (t.toEntry).endRun .ok
  | .armed => (t.mapSys (fun y => { y with accepted := none })).toEntry
  | _ => t

/-- R672: what a system reset leaves, before the start-up sequence runs. `causes` are the bits it adds to RST_CAUSE. -/
def State.systemReset (s : State) (cause : Nat) : State :=
  let r := systemRegs s.regs
  let y := System.reset
  let t : State :=
    { State.reset with
      cv := { Canvas.reset with mem := s.cv.mem, flips := s.cv.flips }
      tim := s.tim
      out := { Formatter.reset with alive := s.out.alive }
      frk := { Franking.reset s.frk.saved with
               total := s.frk.total, rails := s.frk.rails, trips := s.frk.trips, skipped := s.frk.skipped,
               peakDraw := s.frk.peakDraw, tjSum := s.frk.tjSum, tjCount := s.frk.tjCount, hours := s.frk.hours,
               bins := s.frk.bins, boostSamples := s.frk.boostSamples, hourSamples := s.frk.hourSamples }
      otp := s.otp
      sys := { y with jtag := s.sys.jtag, jtagLock := boundaryScan s.sys.jtag, debug := s.sys.debug, strapped := s.sys.strapped,
                      hot := s.sys.shutdown || s.sys.hot }
      regs := r
      free := s.free
      pending := s.pending }
  let c := s.reg bRST 0
  t.setReg bRST 0 (if cause < 24 then setBit c cause true else c)

/-- R530: 60 s added to the current bin. -/
def addMinute (bins : List Nat) : List Nat :=
  match bins with
  | [] => [60]
  | b :: r => (b + 60) :: r

/-- R670, R672: a power-on reset; the non-volatile state stays. -/
def State.powerReset (s : State) (cause : Nat) : State :=
  let t : State :=
    { State.reset with
      cv := { Canvas.reset with mem := s.cv.mem, flips := s.cv.flips }
      frk := { Franking.reset (addMinute s.frk.saved) with
               tjSum := s.frk.tjSum, tjCount := s.frk.tjCount, hours := s.frk.hours }
      otp := s.otp
      sys := { System.reset with hot := s.sys.shutdown || s.sys.hot }
      free := s.free
      pending := s.pending }
  t.setReg bRST 0 (BitVec.ofNat 24 (2 ^ cause))

end Sys2Proof.Machine
end

