-- ==== Sys2Proof/Machine/Franking.lean ====
section
/-! DEFINITION. The franking meter and the limits beneath it (13): clock points, the ledger, budgets, wear, peak power, the
thermal trip and the current limiter. -/

namespace Sys2Proof.Machine

/-! ### FRK_STATUS and its mirror (R226) -/

/-- The clock point in effect and the target, coded 0 ECONOMY, 1 NOMINAL, 2 BOOST, 3 THERMAL FALLBACK. -/
def State.cp (s : State) : Nat := s.rfld bFRK 0 22 2
def State.target (s : State) : Nat := s.rfld bFRK 0 20 2
def State.frkBit (s : State) (i : Nat) : Bool := (s.reg bFRK 0).getLsbD i

/-- R226: SEQ_FRKST takes the mirrored fields of FRK_STATUS. -/
def State.mirror (s : State) : State :=
  let f (lo len : Nat) : Nat := s.rfld bFRK 0 lo len
  let v := f 22 2 * 2 ^ 22 + f 17 1 * 2 ^ 21 + f 16 1 * 2 ^ 20 + f 15 1 * 2 ^ 19 + f 11 1 * 2 ^ 18 + f 18 2 * 2 ^ 16
  s.mapSeq (fun q => { q with frkst := BitVec.ofNat 24 v })

/-- A field of FRK_STATUS changes. -/
def State.setFrk (s : State) (lo len v : Nat) : State := (s.setRfld bFRK 0 lo len v).mirror

/-- VDD_ARRAY of a clock point in mV (R505). -/
def volts (cp : Nat) : Nat := if cp = 1 then 750 else if cp = 2 then 850 else 650

/-- Rank of a clock point by array clock. -/
def rank (cp : Nat) : Nat := if cp = 3 then 0 else cp + 1

/-! ### Energy sections (R507, R517, R518, R524) -/

/-- The declared variant of a section. -/
def variantOf (es : List Energy) (e : Energy) : Option Energy := es.find? (fun f => f.variant && f.ref == e.id)

/-- R517 in units of 10^-15 / 65536 W. THERMAL FALLBACK runs at the voltage of ECONOMY (R505), so its coefficients hold there (R516). -/
def State.predicted (s : State) (e : Energy) (cp : Nat) : Nat :=
  ((e.cyc.zipIdx).map (fun x => x.1 * Config.coefficient x.2 (if cp = 3 then 0 else cp))).sum * e.passes * s.frk.beatHz
    * (4096 * popcount s.cv.power)

/-- One watt in the unit of `predicted`. -/
def watt : Nat := 10 ^ 15 * 65536

/-- The declaration of a section: its clock point in a spill or off it (R507). -/
def Energy.declared (e : Energy) (spill : Bool) : Nat := if spill then e.cpSpill else e.cpOff

/-- BOOST is forbidden: wear, or the peak allowance spent (R531, R533). -/
def Franking.noBoost (f : Franking) : Bool := f.peakOut || 259200 ≤ f.bins.sum

/-- The bound of CAP under a strict policy (R525): the highest clock point up to `c` whose predicted power is within it. -/
def State.capped (s : State) (b : Budget) (e : Energy) (c : Nat) : Nat :=
  if b.policy = 3 then c
  else (((List.range (c + 1)).reverse.find? (fun k => s.predicted e k ≤ b.cap * watt))).getD 0

/-- R507: the target that a declaration comes to, for the section `e` if the PC has entered one. -/
def State.lowered (s : State) (e : Option Energy) (decl : Nat) : Nat :=
  let c := match s.frk.budget with | some b => min decl b.ceil | none => decl
  let c := if s.frk.noBoost then min c 1 else c
  let c := match s.frk.held with | some h => min c h | none => c
  match s.frk.budget, e with
  | some b, some e => s.capped b e c
  | _, _ => c

/-- The section last entered, and the entry whose predictions are charged for one: its variant while VARIANT is set (R526). -/
def State.sectionNow (s : State) : Option Energy :=
  match s.frk.section_ with
  | some i => (s.energies)[i]?
  | none => none
def State.charging (s : State) (e : Energy) : Energy := if s.frkBit 17 then (variantOf s.energies e).getD e else e
def State.chargedEntry (s : State) : Option Energy := s.sectionNow.map s.charging

/-- R507, R526: the target, in a spill or off it. -/
def State.targetFor (s : State) (spill : Bool) : Nat :=
  let decl := match s.sectionNow with | some e => e.declared spill | none => 1
  let decl := match s.chargedEntry with | some e => min decl (e.declared spill) | none => decl
  s.lowered s.chargedEntry decl

/-- R508: the ramp towards a clock point begins where it needs a higher VDD_ARRAY. -/
def State.rampTo (s : State) (c : Nat) : State :=
  if s.frkBit 13 || s.frk.ramp.isSome || volts c ≤ s.frk.vdd || rank c ≤ rank s.cp then s
  else s.mapFrk (fun f => { f with ramp := some c })

/-- R507, R535: the meter sets the target anew; from a thermal trip until its recovery the target is THERMAL FALLBACK. -/
def State.retarget (s : State) : State :=
  if s.frkBit 13 then s.setFrk 20 2 3
  else
    let c := s.targetFor s.frk.spill
    (s.setFrk 20 2 c).rampTo c

/-! ### Spills (R507, R519, R524) -/

/-- A spill begins. -/
def State.spillOn (s : State) : State := (s.mapFrk (fun f => { f with spill := true, spillDue := false })).retarget

/-- The effective beat of a SPILL_WARNING with lead time `arg` ms; the spill period is measured, and the ramp for the spill
begins at once (R507, R509). -/
def State.spillWarned (s : State) (arg : Nat) : State :=
  let t := s.mapFrk (fun f => { f with
    periods := if f.warnAt.isSome then f.periods + 1 else f.periods,
    periodSum := match f.warnAt with | some w => f.periodSum + (f.samples - w) | none => f.periodSum,
    warnAt := some f.samples })
  if t.frk.spill then t
  else if arg = 0 then t.spillOn
  else (t.mapFrk (fun f => { f with spillDue := true })).rampTo (t.targetFor true)

/-- The effective beat of a SPILL_END. -/
def State.spillOff (s : State) : State := (s.mapFrk (fun f => { f with spill := false })).retarget

/-! ### Budgets and windows (R519 to R529) -/

/-- The length of a budget's window in samples of 10 µs (R524). -/
def Franking.windowLength (f : Franking) (b : Budget) : Nat :=
  if b.window ≠ 0 then 100 * b.window else if f.periods = 0 then 100000 else f.periodSum / f.periods

/-- A budget comes into effect: line 2, and the event to both hosts (R520). -/
def State.useBudget (s : State) (b : Budget) : State :=
  let t := (s.mapFrk (fun f => { f with budget := some b, next := none })).setFrk 18 2 b.policy
  ((t.retarget.raiseLine 2).event 0x07 b.policy .ok bFRK)

/-- R523, R526, R527: a window begins. -/
def State.windowStart (s : State) : State :=
  let was := s.frkBit 17
  let t := s.mapFrk (fun f => { f with charged := 0, window := 0, windowSamples := 0, acted := false })
  let t := ((t.setFrk 15 3 0).mapOut (fun o => { o with deadtime := false })).retarget
  let t := if was then t.raiseLine 2 else t
  match t.frk.next with
  | some b => t.useBudget b
  | none => t

/-- R519, R523: a window begins in RUN when the one before has had its length in samples; with WINDOW 0 a SPILL_WARNING begins it. A budget
granted when none is in effect begins the first (DEDUCED, log entry 111). -/
def State.budgetDue (s : State) : Bool :=
  s.sys.mode == .run && (match s.frk.budget with
    | some b => b.window != 0 && decide (s.frk.windowLength b ≤ s.frk.windowSamples + 1)
    | none => s.frk.next.isSome)

/-- BUDGET_WINDOW_START. -/
def execBudgetWindowStart (s : State) : Host.Outcome State Fault Refusal := .next (if s.budgetDue then s.windowStart else s)

/-- R524: an entry fits a budget: its energy over a window at clock point `c`, and its power at ECONOMY. -/
def State.fits (s : State) (b : Budget) (e : Energy) : Bool :=
  let c := s.lowered (some e) (e.declared s.frk.spill)
  s.predicted e c * s.frk.windowLength b ≤ 100 * b.allow * watt && s.predicted e 0 ≤ b.cap * watt

/-- R524: a RUN_START is refused on budget. -/
def State.overBudget (s : State) : Bool :=
  match s.frk.budget with
  | none => false
  | some b =>
    match sectionAt s.energies s.sys.entry.entry.toNat with
    | none => false
    | some i =>
      match (s.energies)[i]? with
      | none => false
      | some e =>
        if b.policy = 2 then !s.fits b e
        else if b.policy = 1 then !s.fits b e && (match variantOf s.energies e with
          | some v => !s.fits b v
          | none => true)
        else false

/-- R527: deadtime begins. -/
def State.deadtime (s : State) : State := (s.setFrk 16 1 1).mapOut (fun o => { o with deadtime := true })

/-- R526: the act of DEGRADE at a sample. -/
def State.degrade (s : State) (b : Budget) : State :=
  if s.frk.acted then s
  else
    let left := s.frk.windowLength b - s.frk.windowSamples
    match s.chargedEntry with
    | none => s
    | some e =>
      if (100000 * b.allow - s.frk.charged) * 10 ^ 12 * 65536 < s.predicted e s.cp * left || 100000 * b.allow < s.frk.charged
      then
        let t := s.mapFrk (fun f => { f with acted := true })
        if (variantOf s.energies e).isSome then ((t.setFrk 17 1 1).retarget).raiseLine 2 else t
      else s

/-- R526 to R529: the overrun policy at a sample in RUN. -/
def State.overrun (s : State) : State :=
  match s.frk.budget with
  | none => s
  | some b =>
    let t := if b.policy = 1 then s.degrade b else s
    if t.frk.charged < 100000 * b.allow then t
    else if b.policy = 3 then
      (if t.frkBit 15 then t else (t.setFrk 15 1 1).event 0x08 0 .ok bFRK)
    else
      let u := if t.frkBit 15 then t else t.setFrk 15 1 1
      if u.frkBit 16 then u else u.deadtime

/-! ### One sample (R512 to R533) -/

/-- R530: a second at BOOST is counted, and the bins move on each powered hour. -/
def Franking.wearTick (f : Franking) (boost : Bool) : Franking :=
  let b := if boost then f.boostSamples + 1 else f.boostSamples
  let bins := if 100000 ≤ b then (match f.bins with | [] => [1] | x :: r => (x + 1) :: r) else f.bins
  let hour := f.hourSamples + 1 == 360000000
  { f with boostSamples := if 100000 ≤ b then 0 else b, hourSamples := if hour then 0 else f.hourSamples + 1,
           hours := if hour then f.hours + 1 else f.hours, bins := if hour then (0 :: bins).take 720 else bins }

/-- R533: the allowance for a start power in mW, in mW·µs; none where the table gives no value. -/
def peakAllowance (start : Nat) : Option Nat :=
  if start ≤ 200000 then some 420000000000
  else if start ≤ 300000 then some (420000000000 - 2625000 * (start - 200000))
  else none

/-- Mean of the samples of the last 60 s. -/
def meanOf (l : List Nat) : Nat := if l.isEmpty then 0 else l.sum / l.length

/-- R533: one sample of module power `p` mW. A start power above 300 W has no entry in the table: its allowance is free. -/
def State.peakTick (s : State) (p : Nat) : State :=
  let f := s.frk
  let above := decide (300000 < p)
  let fresh := above && !(match f.history with | x :: _ => decide (300000 < x) | [] => false)
  let start := meanOf f.history
  let s1 := if !fresh || f.peakOut then s else
    (match peakAllowance start with
     | some a => s.mapFrk (fun f => { f with peak := a })
     | none => s.drawn.mapFrk (fun f => { f with peak := (s.freeBits 39).toNat })).mapFrk
       (fun f => { f with peakDraw := f.peakDraw + 1 })
  let s2 := s1.mapFrk (fun f =>
    let left := if above then f.peak - 10 * (p - 300000) else f.peak
    let below := if above then 0 else f.below300 + 1
    { f with peak := left, below300 := below, history := (p :: f.history).take 6000000,
             peakOut := if above && left = 0 then true else f.peakOut && below < 6000000 })
  (s2.setFrk 12 1 above.toNat).setReg bFRK 0x00A (BitVec.ofNat 24 (s2.frk.peak / 105000000 % 8192))

/-- The ledger takes a sample (R512, R513, R518): energies in units of 10 nJ. -/
def State.charge (s : State) (m : Sample) : State :=
  let p := m.rails.sum
  let a := (m.rails.head?).getD 0
  let run := s.sys.mode == .run
  let here := if run then sectionAt s.energies s.seq.pc.toNat else none
  s.mapFrk (fun f => { f with
    total := f.total + p, run := if run then f.run + p else f.run, window := if run then f.window + p else f.window,
    charged := if run then f.charged + a else f.charged, windowSamples := f.windowSamples + 1, samples := f.samples + 1,
    rails := (m.rails.take 8).zipIdx.foldl (fun r e => sput 0 r e.2 (sget 0 r e.2 + e.1)) f.rails,
    sections := (match here with | some i => sput 0 f.sections i (sget 0 f.sections i + a) | none => f.sections),
    forecast := (match here with
      | some i => (match (s.energies)[i]? with
        | some e => sput 0 f.forecast i (sget 0 f.forecast i + s.predicted (s.charging e) s.cp)
        | none => f.forecast)
      | none => f.forecast),
    section_ := (match here with | some i => some i | none => f.section_),
    tjSum := f.tjSum + m.tj.toInt, tjCount := f.tjCount + 1,
    coolSamples := if m.tj.toInt ≤ 1520 then f.coolSamples + 1 else 0, beatHz := m.beatHz })

/-- A 24-bit field that saturates. -/
def sat24 (n : Nat) : Word := BitVec.ofNat 24 (min 0xFFFFFF n)

/-- FRANKING_SAMPLE (R512): registers, ledger, wear, peak, policy, target. -/
def State.sample (s : State) (m : Sample) : State :=
  let p := m.rails.sum
  let t := s.setReg bFRK 1 (sat24 p)
  let t := t.setReg bFRK 2 (sat24 ((m.rails.head?).getD 0))
  let t := t.setReg bFRK 3 (m.tj.setWidth 24)
  let t := (t.charge m).mapFrk (fun f => f.wearTick (s.cp = 2))
  let t := t.setFrk 11 1 (decide (259200 ≤ t.frk.bins.sum)).toNat
  let t := t.peakTick p
  (if t.sys.mode == .run then t.overrun else t).retarget

/-- R511: the meter gates a BLANK region that no staged load names. -/
def State.gateBlank (s : State) : State :=
  (List.range 16).foldl (fun s r =>
    if s.rstate r = 1 && s.tw.load.isNone && !(tweedRegions (sget [] s.sys.staged 2)).contains r then s.gateOff (312 + r) else s) s

/-- The meter's firmware runs (R512, R694). -/
def State.metering (s : State) : Bool := s.sys.boot == .done && !s.sys.shutdown && s.functionUp 2

def execFrankingSample (m : Sample) (s : State) : Host.Outcome State Fault Refusal :=
  .next (if s.metering then (s.sample m).gateBlank else s)

/-- FRK_ELO as read: module energy in mJ. -/
def Franking.mj (f : Franking) : Nat := f.total / 100000 % 2 ^ 48

/-- FRK_WREM (R521): what is left of ALLOW. -/
def Franking.left (f : Franking) : Word :=
  match f.budget with
  | some b => sat24 (b.allow - (f.charged + 99999) / 100000)
  | none => 0

/-- R540: a load of FRK_ELO latches FRK_EHI. -/
def State.latchEnergy (s : State) : State := s.setReg bFRK 5 (BitVec.ofNat 24 (s.frk.mj / 2 ^ 24))

def execFrkEloRead (s : State) : Host.Outcome State Fault Refusal := .next s.latchEnergy

/-- SPILL_START (R507): the lead time of a SPILL_WARNING is over. -/
def execSpillStart (s : State) : Host.Outcome State Fault Refusal :=
  .next (if s.frk.spillDue && !s.frk.spill then s.spillOn else s.mapFrk (fun f => { f with spillDue := false }))

/-! ### Clock-point changes (R508, R509, R721) -/

/-- AVS_STATUS: the regulator has reached the commanded voltage. -/
def State.avsReached (s : State) : State :=
  match s.frk.ramp with
  | some c => s.mapFrk (fun f => { f with ramp := none, vdd := volts c })
  | none => s

def execAvsStatus (s : State) : Host.Outcome State Fault Refusal := .next s.avsReached

/-- AVS_TIMEOUT: the target is held below the clock point whose voltage was not confirmed. -/
def State.avsMissing (s : State) : State :=
  match s.frk.ramp with
  | some c => (s.mapFrk (fun f => { f with ramp := none, held := some (c - 1) })).retarget
  | none => s

def execAvsTimeout (s : State) : Host.Outcome State Fault Refusal := .next s.avsMissing

/-- R33: a window access holds the stream inside a macro, so no point between macros comes yet. -/
def State.insideMacro (s : State) : Bool := s.arr.run.isSome && s.seq.wait.stallsStream

/-- R144: the stream is idle for 64 cycles from the next point between macros. -/
def State.idle64 (s : State) : State := s.untilFree.stallUntil (fun _ => false) 64

/-- The clock period in 125 ps oscillator periods at the clock point in effect (R505). -/
def State.period (s : State) : Nat := if s.cp = 0 then 10 else if s.cp = 1 then 5 else if s.cp = 2 then 4 else 20

/-- R537: steps are in effect up to a period of 2.5 ns; LIMIT ends with the last of them. -/
def State.setSteps (s : State) (n : Nat) : State :=
  let t := s.mapFrk (fun f => { f with steps := min n (20 - s.period) })
  if t.frk.steps = 0 then t.setFrk 14 1 0 else t

/-- DIVIDER_SWITCH (R508, R509, R535): the clock point becomes the target, once the voltage allows; refused in a locked section
(R33), and not before the next point between macros. A change that leaves THERMAL FALLBACK ends BUSY's THERMAL cause. -/
def State.divider (s : State) : State :=
  let c := s.target
  if s.cp = c || s.frkBit 13 || s.seq.locked || s.frk.vdd < volts c || s.insideMacro then s
  else
    let t := s.idle64.setFrk 22 2 c
    ((t.setSteps t.frk.steps).mapFrk (fun f => { f with vdd := volts c, ramp := none })).mapOut (fun o => { o with thermal := false })

def execDividerSwitch (s : State) : Host.Outcome State Fault Refusal := .next s.divider

/-- BOOST_WEAR_SAVE (R530). -/
def execBoostWearSave (s : State) : Host.Outcome State Fault Refusal := .next (s.mapFrk (fun f => { f with saved := f.bins }))

/-! ### Thermal and current limits (R534 to R538) -/

/-- R538: stretching in a locked section sets TIMING_LOST. -/
def State.stretched (s : State) : State := if s.seq.locked then s.mapSeq (fun q => { q with tl := true }) else s

/-- THERMAL_TRIP (R534). -/
def State.thermalTrip (s : State) : State :=
  if s.frkBit 13 then s
  else
    let t := ((s.setFrk 13 1 1).setFrk 20 2 3).stretched.mapOut (fun o => { o with thermal := true })
    (t.mapFrk (fun f => { f with tripPending := true, trips := f.trips + 1, ramp := none, coolSamples := 0 })).event 0x0E 0 .ok bFRK

def execThermalTrip (s : State) : Host.Outcome State Fault Refusal := .next s.thermalTrip

/-- THERMAL_FALLBACK_SWITCH (R33, R534, R535): at the next point between macros, locked sections included. -/
def State.fallbackSwitch (s : State) : State :=
  if !s.frk.tripPending || s.insideMacro then s
  else
    let t := s.idle64.stretched.setFrk 22 2 3
    (t.setSteps t.frk.steps).mapFrk (fun f => { f with tripPending := false, vdd := 650 })

def execThermalFallbackSwitch (s : State) : Host.Outcome State Fault Refusal := .next s.fallbackSwitch

/-- THERMAL_RECOVERY (R535): 100 ms at or below 95 °C, at THERMAL FALLBACK. -/
def State.thermalRecovery (s : State) : State :=
  if s.frkBit 13 && s.cp = 3 && !s.frk.tripPending && 10000 ≤ s.frk.coolSamples then (s.setFrk 13 1 0).retarget else s

def execThermalRecovery (s : State) : Host.Outcome State Fault Refusal := .next s.thermalRecovery

/-- CURRENT_LIMIT (R537): one step more, up to a period of 2.5 ns; at a period that is there already no step is possible. -/
def State.limitStep (s : State) : State :=
  if 20 ≤ s.period + s.frk.steps then s
  else
    let t := if s.frkBit 14 then s else (s.setFrk 14 1 1).count bFRK 8 1
    t.stretched.mapFrk (fun f => { f with steps := f.steps + 1 })

def execCurrentLimit (s : State) : Host.Outcome State Fault Refusal := .next s.limitStep

/-- LIMIT_STEP_REMOVE (R537). -/
def State.limitRelease (s : State) : State := s.setSteps (s.frk.steps - 1)

def execLimitStepRemove (s : State) : Host.Outcome State Fault Refusal := .next s.limitRelease

end Sys2Proof.Machine
end

