-- ==== Sys2Proof/Machine/LineCode.lean ====
section
/-! DEFINITION. The line codings of the serial lanes (R357, R358, R360): 8b/10b code groups with running disparity, 64b/66b blocks
with their scrambler, and raw words. Bit 0 of a symbol is the bit sent first (R358). -/

namespace Sys2Proof.Machine

/-! ### 8b/10b (R357: IEEE 802.3 Clause 36) -/

/-- The six bits abcdei of D.x in negative and in positive running disparity, a in bit 0. -/
def group6Neg : List Nat :=
  [57, 46, 45, 35, 43, 37, 38, 7, 39, 41, 42, 11, 44, 13, 14, 58, 54, 49, 50, 19, 52, 21, 22, 23, 51, 25, 26, 27, 28, 29, 30, 53]
def group6Pos : List Nat :=
  [6, 17, 18, 35, 20, 37, 38, 56, 24, 41, 42, 11, 44, 13, 14, 5, 9, 49, 50, 19, 52, 21, 22, 40, 12, 25, 26, 36, 28, 34, 33, 10]

/-- The four bits fghj of D.x.y and of K.x.y, f in bit 0. -/
def group4Neg : List Nat := [13, 9, 10, 3, 11, 5, 6, 7]
def group4Pos : List Nat := [2, 9, 10, 12, 4, 5, 6, 8]
def group4KNeg : List Nat := [13, 6, 5, 3, 11, 10, 9, 14]
def group4KPos : List Nat := [2, 9, 10, 12, 4, 5, 6, 1]

/-- Running disparity after a sub-block of `n` bits (Clause 36): positive when it holds more ones than zeros or is 000111 or 0011,
negative when it holds fewer or is 111000 or 1100, the first bit on the left. -/
def disparity (n v : Nat) (rd : Bool) : Bool :=
  let ones := ((List.range n).filter v.testBit).length
  let high := 2 ^ n - 2 ^ (n / 2)
  let low := 2 ^ (n / 2) - 1
  if n < 2 * ones || v = high then true else if 2 * ones < n || v = low then false else rd

/-- D.x.7 takes its alternate form. -/
def alternate7 (x : Nat) (rd : Bool) : Bool := if rd then x = 11 || x = 13 || x = 14 else x = 17 || x = 18 || x = 20

/-- The code group of a byte, as data or as a control character, and the running disparity after it. -/
def group10 (k : Bool) (v : Nat) (rd : Bool) : BitVec 10 × Bool :=
  let x := v % 32
  let y := v / 32
  let a := if k && x = 28 then (if rd then 3 else 60) else ((if rd then group6Pos else group6Neg)[x]?).getD 0
  let rd1 := disparity 6 a rd
  let b := if k then ((if rd1 then group4KPos else group4KNeg)[y]?).getD 0
    else if y = 7 && alternate7 x rd1 then (if rd1 then 1 else 14)
    else ((if rd1 then group4Pos else group4Neg)[y]?).getD 0
  (BitVec.ofNat 10 (a + 64 * b), disparity 4 b rd1)

/-- The twelve control characters of Clause 36, K28.5 first. -/
def controlChars : List Nat := [0xBC, 0x1C, 0x3C, 0x5C, 0x7C, 0x9C, 0xDC, 0xFC, 0xF7, 0xFB, 0xFD, 0xFE]

/-- A received code group: control character or not, and its byte; none for an invalid one. -/
def ungroup (g : BitVec 10) (rd : Bool) : Option (Bool × Nat) :=
  match (List.range 256).find? (fun v => (group10 false v rd).1 == g) with
  | some v => some (false, v)
  | none => (controlChars.find? (fun v => (group10 true v rd).1 == g)).map (fun v => (true, v))

/-- The receiver's running disparity after a code group, valid or not. -/
def rxDisparity (g : BitVec 10) (rd : Bool) : Bool := disparity 4 (g.toNat / 64) (disparity 6 (g.toNat % 64) rd)

/-- `n` code groups as received, lowest first, and the disparity after them. -/
def ungroups (n : Nat) (line : BitVec 66) (rd : Bool) : List (Option (Bool × Nat)) × Bool :=
  (List.range n).foldl (fun acc i =>
    let g := line.extractLsb' (10 * i) 10
    (acc.1 ++ [ungroup g acc.2], rxDisparity g acc.2)) ([], rd)

/-- Characters as code groups in one symbol string, the first in bits [9:0], and the disparity after them. -/
def groups (cs : List (Bool × Nat)) (rd : Bool) : BitVec 66 × Bool :=
  let r := cs.foldl (fun (acc : Nat × Nat × Bool) c =>
    let g := group10 c.1 c.2 acc.2.2
    (acc.1 + g.1.toNat * 2 ^ acc.2.1, acc.2.1 + 10, g.2)) (0, 0, rd)
  (BitVec.ofNat 66 r.1, r.2.2)

/-! ### 64b/66b (R357: IEEE 802.3 Clause 49) -/

/-- The self-synchronous scrambler x^58 + x^39 + 1 over a block's 64 bits, bit 0 first: what is sent, and the register after it. -/
def scramble (st : BitVec 58) (v : BitVec 64) : BitVec 64 × BitVec 58 :=
  (List.range 64).foldl (fun (acc : BitVec 64 × BitVec 58) i =>
    let b := xor (v.getLsbD i) (xor (acc.2.getLsbD 38) (acc.2.getLsbD 57))
    (setBit acc.1 i b, (acc.2 <<< 1) ||| BitVec.ofNat 58 b.toNat)) (0, st)

/-- Its inverse at the receiver. -/
def descramble (st : BitVec 58) (v : BitVec 64) : BitVec 64 × BitVec 58 :=
  (List.range 64).foldl (fun (acc : BitVec 64 × BitVec 58) i =>
    let r := v.getLsbD i
    (setBit acc.1 i (xor r (xor (acc.2.getLsbD 38) (acc.2.getLsbD 57))), (acc.2 <<< 1) ||| BitVec.ofNat 58 r.toNat)) (0, st)

/-- The sync headers in the order of transmission of Clause 49, its first bit in bit 0: 01 before data, 10 before control (DEDUCED,
log entry 102). -/
def headData : BitVec 2 := 2
def headControl : BitVec 2 := 1

/-- A block from its header and its scrambled payload. -/
def block66 (head : BitVec 2) (payload : BitVec 64) : BitVec 66 := payload ++ head

/-- The payload of a control block that carries an ordered set (R360), and of an idle block (PRESUMED, log entry 107). -/
def setPayload (content : BitVec 32) : BitVec 64 := BitVec.ofNat 64 (0x4B + content.toNat * 256)
def idlePayload : BitVec 64 := 0x1E

/-! ### Raw -/

/-- The alignment word (R360, R361). -/
def alignmentWord : BitVec 32 := 0x7E5AA57E

/-! ### Transmitters and receivers -/

/-- The symbols of a string one by one, and symbols of a coding as one string again. -/
def Piece.symbols (p : Piece) : List Piece :=
  match p with
  | .chars cs => cs.map (fun c => .chars [c])
  | .block h v => [.block h v]
  | .words ws => ws.map (fun w => .words [w])
def Piece.joined (ps : List Piece) : Piece :=
  match ps with
  | [p] => p
  | ps => .chars (ps.flatMap (fun p => match p with | .chars cs => cs | _ => []))

/-- What goes on the line, before polarity, and the coding state after it. -/
def Coder.send (c : Coder) (p : Piece) : BitVec 66 × Coder :=
  match p with
  | .chars cs => let r := groups cs c.rd; (r.1, { c with rd := r.2 })
  | .block h v => let r := scramble c.scr v; (block66 h r.1, { c with scr := r.2 })
  | .words ws => (BitVec.ofNat 66 ((ws.zipIdx).foldl (fun a e => a + e.1.toNat * 2 ^ (32 * e.2)) 0), c)

/-- R360: an ordered set in a coding: 0 8b/10b, 1 64b/66b, 2 raw. -/
def orderedPiece (code : Nat) (content : BitVec 32) : Piece :=
  if code = 0 then .chars ((true, 0xBC) :: (List.range 4).map (fun i => (false, fld content (8 * i) 8)))
  else if code = 1 then .block headControl (setPayload content)
  else .words [alignmentWord, content]

/-- A word of data in a coding. -/
def dataPiece (code : Nat) (d : BitVec 64) : Piece :=
  if code = 0 then .chars ((List.range 4).map (fun i => (false, fld d (8 * i) 8)))
  else if code = 1 then .block headData d
  else .words [d.setWidth 32]

/-- R365: training data: idle code groups, idle blocks or alignment words (PRESUMED, log entry 107: the code groups K28.5, D16.2). -/
def idlePiece (code : Nat) : Piece :=
  if code = 0 then .chars [(true, 0xBC), (false, 0x50), (true, 0xBC), (false, 0x50)]
  else if code = 1 then .block headControl idlePayload
  else .words [alignmentWord]

/-- R360: symbols of an ordered set, and of a word to Tweed (R357). -/
def setSymbols (code : Nat) : Nat := if code = 0 then 5 else if code = 1 then 1 else 2
def wordSymbols (code : Nat) : Nat := if code = 0 then 4 else 1

/-- R358: polarity inversion of a line. -/
def polarity (inv : Bool) (b : BitVec 66) : BitVec 66 := if inv then ~~~b else b

/-- What the receiver makes of the symbols of one word: the validity of each symbol (`true` for an invalid one), the data with whether
all of it is data, and whether the word holds a comma or the alignment word. -/
structure Received where
  marks : List Bool
  data : BitVec 64
  isData : Bool
  commas : Nat
  deriving DecidableEq, Repr

/-- The control characters of Clause 36 that hold a comma: K28.1, K28.5 and K28.7. -/
def commaChars : List Nat := [0x3C, 0xBC, 0xFC]
def commasIn (gs : List (Option (Bool × Nat))) : Nat :=
  (gs.filter (fun g => match g with | some (true, v) => commaChars.contains v | _ => false)).length

/-- One word as received, and the coding state after it. -/
def Coder.take (c : Coder) (code : Nat) (line : BitVec 66) : Received × Coder :=
  if code = 0 then
    let r := ungroups 4 line c.rd
    ({ marks := r.1.map (fun g => g.isNone),
       data := BitVec.ofNat 64 ((r.1.zipIdx).foldl (fun a e => a + (match e.1 with | some g => g.2 | none => 0) * 2 ^ (8 * e.2)) 0),
       isData := r.1.all (fun g => match g with | some (false, _) => true | _ => false),
       commas := commasIn r.1 }, { c with rd := r.2 })
  else if code = 1 then
    let h := line.extractLsb' 0 2
    let r := descramble c.scr (line.extractLsb' 2 64)
    ({ marks := [h != headData && h != headControl], data := r.1, isData := h == headData, commas := 0 }, { c with scr := r.2 })
  else
    let w := line.extractLsb' 0 32
    ({ marks := [], data := w.setWidth 64, isData := w != alignmentWord, commas := (w == alignmentWord).toNat }, c)

/-- The symbols of an ordered set seen as words: five code groups, a block, or two raw words. -/
def Coder.takeWords (c : Coder) (code : Nat) (line : BitVec 66) : List Received × Coder :=
  if code = 0 then
    let r := ungroups 5 line c.rd
    ([{ marks := r.1.map (fun g => g.isNone), data := 0, isData := false, commas := commasIn r.1 }], { c with rd := r.2 })
  else if code = 1 then let r := c.take 1 line; ([r.1], r.2)
  else ([(c.take 2 line).1, (c.take 2 (line >>> 32)).1], c)

/-- R360: the content of an ordered set as received, if the symbols spell one, with the validity of each symbol. -/
def Coder.takeSet (c : Coder) (code : Nat) (line : BitVec 66) : Option (BitVec 32) × List Bool × Coder :=
  if code = 0 then
    let r := ungroups 5 line c.rd
    let bytes := (r.1.drop 1).filterMap (fun g => match g with | some (false, v) => some v | _ => none)
    (if r.1.head? = some (some (true, 0xBC)) && bytes.length = 4
       then some (BitVec.ofNat 32 ((bytes.zipIdx).foldl (fun a e => a + e.1 * 2 ^ (8 * e.2)) 0)) else none,
      r.1.map (fun g => g.isNone), { c with rd := r.2 })
  else if code = 1 then
    let h := line.extractLsb' 0 2
    let r := descramble c.scr (line.extractLsb' 2 64)
    (if h = headControl && r.1.extractLsb' 0 8 = 0x4B && r.1.extractLsb' 40 24 = 0 then some (r.1.extractLsb' 8 32) else none,
      [h != headData && h != headControl], { c with scr := r.2 })
  else (if line.extractLsb' 0 32 = alignmentWord then some (line.extractLsb' 32 32) else none, [], c)

end Sys2Proof.Machine
end

