-- ==== Sys2Proof/Machine/Outputs.lean ====
section
/-! DEFINITION. The output lanes (12): frames, their quads and their registers. -/

namespace Sys2Proof.Machine

/-! ### Output lanes (R483 to R487) -/

/-- log2 of the stripe set of output lane `n`. -/
def State.stripe (s : State) (n : Nat) : Nat := s.rfld bOUT (0x010 + n) 19 2

/-- R483: every lane of the lane's stripe set is enabled. -/
def State.setWhole (s : State) (n : Nat) : Bool :=
  let k := 2 ^ s.stripe n
  (List.range k).all (fun i => (s.reg bOUT (0x010 + (n / k * k + i))).getLsbD 23)

/-- What an output lane sends (R487, R495). -/
inductive FrameOut where
  | electricalIdle
  | idles
  | frames
  deriving DecidableEq, Repr

/-- R483, R487, R495, R684: an enabled lane of a powered, locked quad sends frames in ARMED and RUN where its stripe set is whole, idles
otherwise and in CONFIGURE and MAINTENANCE; every other lane is in electrical idle. -/
def State.outState (s : State) (n : Nat) : FrameOut :=
  if !((s.reg bOUT (0x010 + n)).getLsbD 23 && s.domainUp (308 + n / 4) && (s.reg bOUT (8 + n / 4)).getLsbD 0) then .electricalIdle
  else match s.sys.mode with
    | .armed | .run => if s.setWhole n then .frames else .idles
    | .configure | .maintenance => .idles
    | _ => .electricalIdle

/-- The content of the start ordered set of lane `n`'s frame (R484). -/
def State.frameStart (s : State) (n : Nat) : BitVec 32 :=
  let k := 2 ^ s.stripe n
  BitVec.ofNat 32 (0x10 * 2 ^ 24 + n * 2 ^ 20 + n % k * 2 ^ 18 + s.stripe n * 2 ^ 16 + fld s.out.word 0 16)

/-- Lane `n`'s bytes of the word (R483). -/
def State.frameBytes (s : State) (n : Nat) : List Byte :=
  let k := 2 ^ s.stripe n
  (leBytes 64 s.out.word.toNat).drop (64 * (n % k) / k) |>.take (64 / k)

/-- OUT_LCFG_n.CODE. -/
def State.outCode (s : State) (n : Nat) : Nat := s.rfld bOUT (0x010 + n) 21 2

/-- R484: the parts of the frame lane `n` sends: the start ordered set, its bytes of the word, and their CRC-32. -/
def State.frame (s : State) (n : Nat) : List Piece :=
  let bytes := s.frameBytes n
  let crc := leBytes 4 (crc32 bytes).toNat
  let code := s.outCode n
  let body := if code = 0 then (bytes ++ crc).map (fun b => Piece.chars [(false, b.toNat)])
    else ((List.range (bytes.length / 8)).map (fun i =>
        Piece.block headData (BitVec.ofNat 64 (leNat ((bytes.drop (8 * i)).take 8))))) ++ [.block headData (BitVec.ofNat 64 (leNat crc))]
  orderedPiece code (s.frameStart n) :: body

/-- Pieces one after another on a line: the symbols before polarity, and the coding state after them. -/
def Coder.sendAll (c : Coder) (ps : List Piece) : List (BitVec 66) × Coder :=
  match ps with
  | [] => ([], c)
  | p :: r =>
    let (b, c1) := c.send p
    let (bs, c2) := c1.sendAll r
    (b :: bs, c2)

/-- Pieces leave output lane `n`, inverted where POLTX is 1 (R358). -/
def State.outSend (s : State) (n : Nat) (ps : List Piece) : State :=
  let r := (sget { rd := false, scr := 0 } s.out.coders n).sendAll ps
  s.mapOut (fun o => { o with
    frames := sput [] o.frames n (r.1.map (polarity ((s.reg bOUT (0x010 + n)).getLsbD 18))),
    coders := sput { rd := false, scr := 0 } o.coders n r.2 })

/-- R484 to R486: the lane begins the frame, after the `gap` words of idles that it has sent since the frame before, or omits it while
that is still being sent (`none`). A lane that sends no frames sends those idles alone. -/
def State.sendFrame (s : State) (n : Nat) (gap : Option Nat) : State :=
  let idles := List.replicate (gap.getD 0) (idlePiece (s.outCode n))
  match s.outState n with
  | .electricalIdle => s
  | .idles => s.outSend n idles
  | .frames => if gap.isNone then s.count bOUT (0x020 + n) 1 else s.outSend n (idles ++ s.frame n)

def execOutputFrame (n : Fin 16) (gap : Option Nat) (s : State) : Host.Outcome State Fault Refusal :=
  .next (s.sendFrame n gap)

/-! ### Output quad PLLs (R483, R684) -/

/-- OUT_QPLL_q.LOCK; a locked PLL takes its quad's lanes out of electrical idle. -/
def State.outPll (s : State) (q : Nat) (lock : Bool) : State :=
  if lock && !s.domain (308 + q) then s else s.setRfld bOUT (8 + q) 0 1 lock.toNat

def execOutputPllLossOfLock (n : Fin 4) (s : State) : Host.Outcome State Fault Refusal := .next (s.outPll n false)
def execOutputPllLock (n : Fin 4) (s : State) : Host.Outcome State Fault Refusal := .next (s.outPll n true)

/-! ### Register rules (R502 to R504) -/

/-- R356, R357, R359: a line rate in MHz is valid for a coding; a BEATCLK reference takes the rate in effect (R382). Coding 0:
8b/10b, 1: 64b/66b, 2: raw. Rates are compared exactly: `num / den` in units of 10 kHz. -/
def rateFits (code num den : Nat) : Bool :=
  let lo := if code = 1 then 500000 else 100000
  let hi := if code = 0 then 2000000 else 3200000
  let ui := if code = 0 then 40 else if code = 1 then 66 else 32
  lo * den ≤ num && num ≤ hi * den && num ≤ 100000 * ui * den

/-- The line rate an LQ_PLL or OUT_QPLL value sets, as a fraction of 10 kHz; `beatHz` is the frequency of BEATCLK. -/
def pllRate (v : Word) (beatHz : Nat) : Nat × Nat :=
  let d := fld v 19 4 + 1
  if v.getLsbD 23 then (beatHz * fld v 7 12, 10000 * d) else (15625 * fld v 7 12, d)

/-- R356, R357, R359 for a quad value with the coding of each lane. -/
def pllFits (v : Word) (beatHz : Nat) (codes : List Nat) : Bool :=
  let (n, d) := pllRate v beatHz
  8 ≤ fld v 7 12 && fld v 7 12 ≤ 3200 && codes.all (fun c => rateFits c n d)

/-- The output codes of a quad's lanes, enabled or not (R504). -/
def State.outCodes (s : State) (q : Nat) : List Nat := (List.range 4).map (fun i => s.rfld bOUT (0x010 + 4 * q + i) 21 2)

/-- R483: enabled lanes of one stripe set agree in STRIPE and CODE. A set whose lanes are not all enabled yet sends
nothing (DEDUCED, log entry 20). -/
def State.stripesHold (s : State) : Bool :=
  (List.range 16).all (fun n =>
    let v := s.reg bOUT (0x010 + n)
    let k := 2 ^ fld v 19 2
    !v.getLsbD 23 || (List.range k).all (fun i =>
      let u := s.reg bOUT (0x010 + (n / k * k + i))
      !u.getLsbD 23 || (fld u 19 4 == fld v 19 4)))

/-- R504: the output registers as they would stand are good. -/
def State.outFits (s : State) (off : Nat) : Bool :=
  if 4 ≤ off && off < 8 then
    let m := s.rfld bOUT off 22 2
    m != 3 && !(m == 2 && s.rfld bOUT off 0 8 == 0)
  else if 8 ≤ off && off < 0x00C then pllFits (s.reg bOUT off) s.frk.beatHz (s.outCodes (off - 8))
  else if 0x010 ≤ off && off < 0x020 then
    let q := (off - 0x010) / 4
    s.rfld bOUT off 21 2 < 2 && s.rfld bOUT off 19 2 != 3 && s.stripesHold
      && pllFits (s.reg bOUT (8 + q)) s.frk.beatHz (s.outCodes q)
  else true

/-- A write to the output block after the checks of R625: R502, R504, and what the register's fields do. -/
def State.writeOut (s : State) (off : Nat) (v : Word) : Status × State :=
  if (off = 0 || (4 ≤ off && off < 0x020)) && (s.sys.mode == .armed || s.sys.mode == .run) then (.wrongMode, s)
  else
    let t := s.regApply bOUT off v
    if !t.outFits off then (.badParameter, s)
    else if 0x010 ≤ off && off < 0x020 then
      -- R511: an output quad is powered while a lane of it is enabled, in the modes that work
      (.ok, t.repower)
    else (.ok, t)

end Sys2Proof.Machine
end

