-- ==== Sys2Proof/Machine/Lanes.lean ====
section
/-! DEFINITION. Front-end lanes (09): training, hello, alive, fixed-latency alignment, words to Tweed, and the writes of the
LQ block. -/

namespace Sys2Proof.Machine

/-- A register of lane `l`: 0 configuration, 1 status, 2 partner, 3 errors. -/
def State.laneReg (s : State) (k l : Nat) : Word := s.reg (lqBlk l) (4 + 4 * k + l % 4)
/-- Replaces a field of LQ_STAT_l. -/
def State.setStat (s : State) (l lo len v : Nat) : State := s.setRfld (lqBlk l) (8 + l % 4) lo len v
/-- LQ_STAT_l.VER, the agreed hello version. -/
def State.laneVer (s : State) (l : Nat) : Nat := s.rfld (lqBlk l) (8 + l % 4) 18 2
/-- LQ_CFG_l.CODE and HMAX. -/
def State.laneCode (s : State) (l : Nat) : Nat := s.rfld (lqBlk l) (4 + l % 4) 21 2
def State.laneHmax (s : State) (l : Nat) : Nat := s.rfld (lqBlk l) (4 + l % 4) 18 2

/-- R367: an UP or HELLO lane is lost and returns to ACQUIRE. -/
def State.laneLose (s : State) (l cause : Nat) : State :=
  if s.laneState l < 2 then s else (s.setStat l 15 3 cause).laneRestart l true

/-- A lane enters UP at an agreed version (R368 to R370). -/
def State.laneUp (s : State) (l ver : Nat) : State :=
  let t := (s.setStat l 18 2 ver).laneMove l 3
  t.setLane l { t.lane l with symbols := 0 }

/-! ### Transmitters (R358, R365, R372) -/

/-- What a lane's transmitter does (R365). -/
inductive LineOut where
  | electricalIdle
  | training
  | hello
  | data
  deriving DecidableEq, Repr

def State.laneOut (s : State) (l : Nat) : LineOut :=
  match s.laneState l with
  | 0 => .electricalIdle
  | 1 => .training
  | 2 => .hello
  | _ => .data

/-- A lane sends symbols in its coding, inverted where POLTX is 1 (R358). -/
def State.transmit (s : State) (l : Nat) (p : Piece) : State :=
  let x := s.lane l
  let r := x.tx.send p
  s.setLane l { x with tx := r.2, line := polarity ((s.laneReg 0 l).getLsbD 16) r.1 }

/-- An ordered set starts at the lane's next symbol (R360, R372): its symbols go ahead of whatever waits. -/
def State.sendSet (s : State) (l : Nat) (content : BitVec 32) : State :=
  let x := s.lane l
  s.setLane l { x with out := (orderedPiece (s.laneCode l) content).symbols ++ x.out, sent := content, symbols := 0 }

/-- One word cycle of a transmitter: the symbols that wait, with `word` behind them where they do not fill the cycle. Data that gets no
place in the cycle finds the transmit-ready signal low (R372). -/
def State.sendWord (s : State) (l : Nat) (word : Piece) (data : Bool) : State :=
  let n := wordSymbols (s.laneCode l)
  let x := s.lane l
  let took := decide (x.out.length < n)
  let all := if took then x.out ++ word.symbols else x.out
  (s.setLane l { x with out := all.drop n, symbols := x.symbols + n, ready := data && took }).transmit l (Piece.joined (all.take n))

/-! ### Training and hello (R366 to R371) -/

/-- What alignment asks for (R366): commas, consecutive valid sync headers, or alignment words 1,024 words apart. -/
def alignNeed (code : Nat) : Nat := if code = 0 then 16 else if code = 1 then 64 else 4

/-- R366: a word seen in ACQUIRE counts towards symbol alignment. -/
def Lane.acquire (x : Lane) (code : Nat) (r : Received) : Lane :=
  if code = 0 then { x with good := x.good + r.commas }
  else if code = 1 then { x with good := if r.marks.any id then 0 else x.good + 1 }
  else
    let due := x.since + 1 == 1024
    if r.commas = 1 && (x.good = 0 || due) then { x with good := x.good + 1, since := 0 }
    else if due then { x with good := 0, since := 0 }
    else { x with since := x.since + 1 }

/-- SYMBOL_ALIGNMENT: the receiver has seen what R366 asks for. With HMAX 0 the lane enters UP at once (R370). The sequence numbers of
its ALIVE sets start again at 0, which R362 leaves open (DESIGN CHOICE, log entry 123). -/
def State.aligned (s : State) (l : Nat) : State :=
  let x := s.lane l
  if s.laneState l ≠ 1 || x.good < alignNeed (s.laneCode l) then s
  else
    let t := s.setLane l { Lane.reset with rx := x.rx, tx := x.tx, line := x.line, since := x.since }
    if s.laneHmax l = 0 then t.laneUp l 0 else t.laneMove l 2

def execSymbolAlignment (l : Fin 144) (s : State) : Host.Outcome State Fault Refusal := .next (s.aligned l)

/-- R369: a partner's HELLO received in HELLO state; the second of two identical ones settles the version. -/
def State.hello (s : State) (l : Nat) (c : BitVec 24) : State :=
  let x := s.lane l
  if s.laneState l ≠ 2 || x.settled.isSome then s
  else if x.hello = some c then
    let v := min (s.laneHmax l) (fld c 22 2)
    let t := s.setReg (lqBlk l) (0x00C + l % 4) (BitVec.ofNat 24 (fld c 22 2 * 2 ^ 22 + fld c 20 1 * 2 ^ 21 + fld c 0 16))
    (t.setStat l 18 2 v).setLane l { x with settled := some v, acks := 0 }
  else s.setLane l { x with hello := some c }

/-- HELLO_TIMEOUT (R370). -/
def State.helloTimeout (s : State) (l : Nat) : State :=
  if s.laneState l = 2 && (s.lane l).settled.isNone then s.laneUp l 0 else s

def execHelloTimeout (l : Fin 144) (s : State) : Host.Outcome State Fault Refusal := .next (s.helloTimeout l)

/-- The HELLO set of R362 and R364; the device is fixed-latency capable. -/
def State.helloSet (s : State) (l : Nat) : BitVec 32 :=
  BitVec.ofNat 32 (0x02 * 2 ^ 24 + s.laneHmax l * 2 ^ 22 + (s.lane l).settled.isSome.toNat * 2 ^ 21 + 2 ^ 20
    + s.rfld bTIM 0 0 8 * 256 + l)

/-- HELLO_TRANSMIT (R365, R369): a HELLO every 128 symbols, counted from entry to HELLO as R372 counts (DEDUCED, log entry 124); with
ACK once the version is settled, and 8 of those at most. -/
def State.helloSend (s : State) (l : Nat) : State :=
  let x := s.lane l
  if s.laneState l ≠ 2 || x.symbols < 128 || 8 ≤ x.acks then s
  else (s.setLane l { x with acks := if x.settled.isSome then x.acks + 1 else x.acks }).sendSet l (s.helloSet l)

def execHelloTransmit (l : Fin 144) (s : State) : Host.Outcome State Fault Refusal := .next (s.helloSend l)

/-- LANE_UP (R369): 8 sets with ACK have been sent, to their last symbol. -/
def State.helloDone (s : State) (l : Nat) : State :=
  match (s.lane l).settled with
  | some v => if s.laneState l = 2 && 8 ≤ (s.lane l).acks && (s.lane l).out.isEmpty then s.laneUp l v else s
  | none => s

def execLaneUp (l : Fin 144) (s : State) : Host.Outcome State Fault Refusal := .next (s.helloDone l)

/-! ### Ordered sets in UP (R362, R372 to R377) -/

/-- The ALIVE set of R362 and R373. -/
def State.aliveSet (s : State) (l : Nat) : BitVec 32 :=
  BitVec.ofNat 32 (2 ^ 24 + (s.lane l).aliveSeq.toNat * 65536 + s.degraded.toNat * 1024 + s.seq.tl.toNat * 512
    + s.busy.toNat * 256 + s.laneVer l)

/-- ALIVE_TRANSMIT (R372, R373): 1,024 symbols after entry to UP or the start of the last, a set starts, and Tweed's data waits. -/
def State.aliveSend (s : State) (l : Nat) : State :=
  let x := s.lane l
  if s.laneState l ≠ 3 || x.symbols < 1024 then s
  else (s.setLane l { x with aliveSeq := x.aliveSeq + 1 }).sendSet l (s.aliveSet l)

def execAliveTransmit (l : Fin 144) (s : State) : Host.Outcome State Fault Refusal := .next (s.aliveSend l)

/-- R374: the conditions of fixed-latency alignment other than the BEAT itself. -/
def State.fixedLatency (s : State) (l : Nat) : Bool :=
  let pll := s.reg (lqBlk l) 0
  let ui := if s.laneCode l = 0 then 40 else if s.laneCode l = 1 then 66 else 32
  (s.laneReg 0 l).getLsbD 20 && pll.getLsbD 23 && fld pll 7 12 % (ui * (fld pll 19 4 + 1)) == 0 && s.laneVer l == 2
    && (s.laneReg 2 l).getLsbD 21

/-- R374, R375, R377: a BEAT ordered set. -/
def State.laneBeat (s : State) (l : Nat) (onWord onBeat : Bool) (phase : BitVec 14) : State :=
  if s.laneState l ≠ 3 then s
  else if (s.laneReg 1 l).getLsbD 22 then if onWord && onBeat then s else s.laneLose l 5
  else if onWord && s.fixedLatency l then
    let t := ((s.setStat l 22 1 1).setStat l 8 7 (fld phase 7 7)).setStat l 0 7 (fld phase 0 7)
    t.setLane l { t.lane l with beatRef := true }
  else s

/-- Whether lane `l`'s words reach its region's logic (R403, R422). -/
def State.toTweed (s : State) (l : Nat) : Bool := s.laneState l == 3 && s.rstate (quadRegion (l / 4)) == 3

/-- A word handed to Tweed with its postmark (R382); the golden image's monitors count it (R439). -/
def State.hand (s : State) (l : Nat) (data : BitVec 64) (valid : Bool) : State :=
  if s.toTweed l then
    let t := s.setLane l { s.lane l with word := some (data, valid, s.postmark) }
    if s.tw.golden.getLsbD (quadRegion (l / 4)) then
      t.mapTw (fun w => { w with monitors := sput 0 w.monitors l (sget 0 w.monitors l + 1) })
    else t
  else s

/-- One word cycle of a transmitter (R365, R369, R372): training data in ACQUIRE; in HELLO idles and the HELLO sets that are due, and the
lane goes UP after the last of them; in UP an ALIVE where one is due, else what the region's logic gives, which is a free value, or
idles where the region is not ACTIVE (R422). -/
def State.laneTick (s : State) (l : Nat) : State :=
  let code := s.laneCode l
  match s.laneOut l with
  | .electricalIdle => s
  | .training => s.transmit l (idlePiece code)
  | .hello => ((s.helloSend l).sendWord l (idlePiece code) false).helloDone l
  | .data =>
    let t := s.aliveSend l
    if s.rstate (quadRegion (l / 4)) = 3 then t.drawn.sendWord l (dataPiece code (t.freeBits 64)) true
    else t.sendWord l (idlePiece code) false

/-! ### Symbols as received (R358, R363, R366, R367, R382) -/

/-- How many of the first `n` entries are invalid. -/
def badIn (n : Nat) (l : List Bool) : Nat := ((l.take n).filter (fun b => b)).length

/-- R366, R367: a raw word of an aligned lane, `hit` when it is the alignment word: at its expected position it is there or missing. -/
def Lane.rawWord (x : Lane) (hit : Bool) : Lane :=
  if x.since + 1 = 1024 then { x with since := 0, missed := if hit then 0 else x.missed + 1 } else { x with since := x.since + 1 }

/-- R367: symbols of an aligned lane, oldest first: coding errors are counted, and too many lose the lane with CAUSE 3. `hits` says of each
raw word whether it is the alignment word, and `stray` counts those of them that stand in no ordered set and at no expected position. -/
def State.symbolsSeen (s : State) (l : Nat) (marks hits : List Bool) (stray : Nat) : State :=
  let x := hits.foldl Lane.rawWord (s.lane l)
  let seen := (marks.reverse ++ x.recent).take 80
  let t := (s.setLane l { x with recent := seen }).count (lqBlk l) (0x010 + l % 4) (badIn marks.length marks + stray)
  let lost := if s.laneCode l = 0 then (List.range marks.length).any (fun i => 4 ≤ badIn 16 (seen.drop i))
    else if s.laneCode l = 1 then decide (16 ≤ badIn 64 seen) else decide (2 ≤ x.missed)
  if lost then t.laneLose l 3 else t

/-- What an ordered set does by its type (R362). -/
def State.actSet (s : State) (l : Nat) (content : BitVec 32) (onWord onBeat : Bool) (phase : BitVec 14) : State :=
  let ty := fld content 24 8
  if ty = 1 then s
  else if ty = 2 then s.hello l (content.extractLsb' 0 24)
  else if ty = 3 then s.laneBeat l onWord onBeat phase
  else s.count (lqBlk l) (0x010 + l % 4) 1

/-- ORDERED_SET (R360, R362, R363): the symbols of an ordered set. Tweed gets an invalid word in its place, whose data the spec does not
give: one word for a set, whatever its length in symbols (DESIGN CHOICE, log entry 123). Symbols that spell none do nothing else. In ACQUIRE
they count towards alignment (R366). -/
def State.orderedSet (s : State) (l : Nat) (line : BitVec 66) (onWord onBeat : Bool) (phase : BitVec 14) : State :=
  if s.laneState l = 0 then s
  else if s.laneState l = 1 then
    let x := s.lane l
    let (rs, rx) := x.rx.takeWords (s.laneCode l) (polarity ((s.laneReg 0 l).getLsbD 17) line)
    s.setLane l (rs.foldl (fun y r => y.acquire (s.laneCode l) r) { x with rx := rx })
  else
    let x := s.lane l
    let code := s.laneCode l
    let (c, marks, rx) := x.rx.takeSet code (polarity ((s.laneReg 0 l).getLsbD 17) line)
    let t := (s.setLane l { x with rx := rx }).symbolsSeen l marks (if code = 2 then [c.isSome, false] else []) 0
    if t.laneState l < 2 then t
    else
      let u := t.drawn.hand l (t.freeBits 64) false
      match c with
      | some c => u.actSet l c onWord onBeat phase
      | none => u

def execOrderedSet (l : Fin 144) (line : BitVec 66) (onWord onBeat : Bool) (phase : BitVec 14) (s : State) :
    Host.Outcome State Fault Refusal := .next (s.orderedSet l line onWord onBeat phase)

/-- LANE_WORD: the symbols of one word, decoded (R357, R358), judged (R367) and handed to Tweed with its postmark (R382); in ACQUIRE they
count towards alignment (R366), and a DISABLED receiver ignores them (R365). -/
def State.laneWord (s : State) (l : Nat) (line : BitVec 66) : State :=
  let x := s.lane l
  let code := s.laneCode l
  if s.laneState l = 0 then s
  else
    let (r, rx) := x.rx.take code (polarity ((s.laneReg 0 l).getLsbD 17) line)
    if s.laneState l = 1 then s.setLane l ({ x with rx := rx }.acquire code r)
    else
      let stray := if code = 2 && r.commas = 1 && x.since + 1 ≠ 1024 then 1 else 0
      let t := (s.setLane l { x with rx := rx }).symbolsSeen l r.marks (if code = 2 then [r.commas == 1] else []) stray
      if t.laneState l < 2 then t else t.hand l r.data (r.isData && !r.marks.any id)

/-- The symbols of a word: the block's sync header comes in first (R357). -/
def State.lineOf (s : State) (l : Nat) (line : BitVec 64) (head : BitVec 2) : BitVec 66 :=
  if s.laneCode l = 1 then line ++ head else line.setWidth 66

def execLaneWord (l : Fin 144) (line : BitVec 64) (head : BitVec 2) (s : State) : Host.Outcome State Fault Refusal :=
  .next (s.laneWord l (s.lineOf l line head))

/-! ### Losses and PLLs (R365, R367) -/

def execLossOfSignal (l : Fin 144) (s : State) : Host.Outcome State Fault Refusal := .next (s.laneLose l 1)
def execCdrLossOfLock (l : Fin 144) (s : State) : Host.Outcome State Fault Refusal := .next (s.laneLose l 2)

/-- ALIVE_TIMEOUT: a lane in HELLO or UP is supervised once its agreed version is 1 or 2. -/
def execAliveTimeout (l : Fin 144) (s : State) : Host.Outcome State Fault Refusal :=
  .next (if 2 ≤ s.laneState l && s.laneVer l ≠ 0 then s.laneLose l 4 else s)

/-- A quad PLL loses lock. -/
def State.quadLose (s : State) (q : Nat) : State :=
  (List.range 4).foldl (fun s i => s.laneLose (4 * q + i) 6) (s.setRfld (bLQ + q) 0 0 1 0)

def execQuadPllLossOfLock (n : Fin 36) (s : State) : Host.Outcome State Fault Refusal := .next (s.quadLose n)

/-- A quad PLL locks; its enabled lanes begin acquisition. -/
def State.quadLock (s : State) (q : Nat) : State :=
  if !s.domainUp (272 + q) then s
  else (List.range 4).foldl (fun s i =>
    let l := 4 * q + i
    if s.laneState l = 0 && s.laneEn l then s.laneRestart l true else s) (s.setRfld (bLQ + q) 0 0 1 1)

def execQuadPllLock (n : Fin 36) (s : State) : Host.Outcome State Fault Refusal := .next (s.quadLock n)

/-! ### Register writes (R359, R401, R511) -/

/-- The codes of a quad's lanes, enabled or not (R359). -/
def State.quadCodes (s : State) (q : Nat) : List Nat := (List.range 4).map (fun i => s.laneCode (4 * q + i))

/-- A write to LQ_PLL or LQ_CFG_l, after the checks of R625. -/
def State.writeLq (s : State) (q off : Nat) (v : Word) : Status × State :=
  let blk := bLQ + q
  if off < 8 && s.sys.mode ≠ .configure && s.sys.mode ≠ .maintenance then (.wrongMode, s)
  else
    let t := s.regApply blk off v
    let changed := t.reg blk off ≠ s.reg blk off
    if off = 0 then
      if !pllFits (t.reg blk 0) s.frk.beatHz (t.quadCodes q) then (.badParameter, s)
      else if !changed then (.ok, s)
      else
        (.ok, (List.range 4).foldl (fun s i => s.laneRestart (4 * q + i) (s.domainUp (272 + q))) (t.setRfld blk 0 0 1 0))
    else if 4 ≤ off && off < 8 then
      let l := 4 * q + (off - 4)
      if t.laneCode l = 3 || t.laneHmax l = 3 || !pllFits (t.reg blk 0) s.frk.beatHz (t.quadCodes q) then (.badParameter, s)
      else if !changed then (.ok, s)
      else
        let u := t.repower
        (.ok, u.laneRestart l (u.domainUp (272 + q)))
    else (.ok, t)

end Sys2Proof.Machine
end

