-- ==== Sys2Proof/Machine/Beat.lean ====
section
/-! DEFINITION. BEATCLK, beats and postmarks, TSTREAM commands (09), and the start of a run they bring (01, 13). -/

namespace Sys2Proof.Machine

/-! ### The beat (R379 to R383, R477, R494, R527) -/

/-- R380: the count and epoch that the next beat takes; the first beat since power-on takes the counter as it stands. -/
def Timing.advance (t : Timing) : Timing :=
  if t.begun then
    { t with beat := t.beat + 1, epoch := if t.beat = BitVec.allOnes 40 then t.epoch + 1 else t.epoch }
  else { t with begun := true }

/-- R477: the record of the beat that now begins. -/
def Timing.marked (t : Timing) : Timing := { t with marks := ((t.epoch ++ t.beat : BitVec 48) :: t.marks).take 257 }

/-- TIM_STATUS.OK (R384): while BEATCLK was last measured out of range, whether it is in range now is free. -/
def State.timOk (s : State) : State :=
  if s.tim.stray then s.drawn.setRfld bTIM 1 20 1 (s.freeBits 1).toNat else s.setRfld bTIM 1 20 1 1

/-- A checkpoint restart waits for the next beat (R701). -/
def State.restartDue (s : State) : Bool := s.sys.mode == .run && s.sys.restart && s.sys.faults.isEmpty

/-- R701: the program goes on in the first array cycle of the beat, and BUSY's FAULT cause ends. -/
def State.restartEnds (s : State) : State :=
  if s.restartDue then (s.mapSys (fun y => { y with restart := false })).mapOut (fun o => { o with fault := false, accSeen := 0 }) else s

/-- R527: a beat that begins while the hold stands is counted as skipped. -/
def State.deadBeat (s : State) : State :=
  if s.running && s.seq.wait == .beat && s.deadHold then
    (s.mapFrk (fun f => { f with skipped := f.skipped + 1 })).count bFRK 7 1
  else s

/-- A BEATCLK rising edge begins a beat; `f` is what a TSTREAM command does to the counter in it. -/
def State.beatBegins (s : State) (f : Timing → Timing) : State :=
  let s := s.windowEdge
  let t := { s with tim := (f s.tim.advance).marked }
  let t := ({ t with tim := { t.tim with present := true } }).timOk
  let t := (t.mapSeq (fun q => { q with bphase := 0 })).restartEnds
  let t := if (t.sys.mode == .armed || t.sys.mode == .run) && fld t.tim.beat 0 3 = 0 then
      t.mapOut (fun o => { o with alive := !o.alive })
    else t
  t.mapSys (fun y => { y with record := y.record.map (fun r =>
    if r.open_ then { r with tl := r.tl || t.seq.tl, degraded := r.degraded || t.degraded } else r) })

/-- A beat with no TSTREAM command. -/
def State.beatEdge (s : State) (f : Timing → Timing) : State := (s.beatBegins f).deadBeat

def execBeat (s : State) : Host.Outcome State Fault Refusal := .next (s.beatEdge id)

/-! ### Loss of BEATCLK (R384, R385) -/

/-- BEATCLK_LOST. -/
def State.beatLost (s : State) : State :=
  if !s.tim.present then s
  else
    let t := ({ s with tim := { s.tim with present := false } }).setRfld bTIM 1 23 1 1
    let t := t.setRfld bTIM 1 20 1 0
    let t := if t.seq.locked then t.mapSeq (fun q => { q with tl := true }) else t
    let t := (List.range 36).foldl (fun s q => if (s.reg (bLQ + q) 0).getLsbD 23 then s.quadLose q else s) t
    t.notice 0x0D 0 .ok bTIM

def execBeatclkLost (s : State) : Host.Outcome State Fault Refusal := .next s.beatLost

/-- BEATCLK_OUT_OF_RANGE. -/
def State.beatStray (s : State) : State :=
  let t := ({ s with tim := { s.tim with stray := true } }).setRfld bTIM 1 22 1 1
  (t.setRfld bTIM 1 20 1 0).notice 0x0D 0 .ok bTIM

def execBeatclkOutOfRange (s : State) : Host.Outcome State Fault Refusal := .next s.beatStray

/-! ### TSTREAM (R386 to R390) -/

/-- A frame of command `code`, sampled while BEATCLK is present (R384), whose CRC and STOP are good: the checks of R388 on ARG and PART, the record of R389, and the
effective beat. `f` is the command's effect on the counter, `act` the rest; a window that it begins ends a deadtime hold before the beat
could count as skipped (R527). -/
def State.tstream (s : State) (code : Nat) (zeroArg : Bool) (part arg : Byte) (f : Timing → Timing) (act : State → State) :
    State :=
  if !s.tim.present then s
  else if zeroArg && arg ≠ 0 then s.count bTIM 2 1
  else if part ≠ 0xFF && part.toNat ≠ s.rfld bTIM 0 0 8 then s
  else (act ((((s.beatBegins f).setRfld bTIM 1 16 4 code).setRfld bTIM 1 8 8 arg.toNat).raiseLine 1)).deadBeat

def execSync (part arg : Byte) (s : State) : Host.Outcome State Fault Refusal := .next (s.tstream 0 true part arg id id)

/-- R19, R390: the effective beat of a run-start command. -/
def State.runCommand (s : State) : State :=
  match s.sys.mode, s.sys.accepted with
  | .armed, some n => (s.beginRun n).windowStart
  | _, _ => s.setRfld bTIM 1 21 1 1

def execTstreamRunStart (part arg : Byte) (s : State) : Host.Outcome State Fault Refusal :=
  .next (s.tstream 1 true part arg id State.runCommand)

/-- A spill warning reaches the meter; with WINDOW 0 a window begins (R519, R523). -/
def State.spillCommand (s : State) (arg : Byte) : State :=
  let t := s.wake.spillWarned arg.toNat
  match t.frk.budget with
  | some b => if b.window = 0 && t.sys.mode == .run then t.windowStart else t
  | none => t

def execSpillWarning (part arg : Byte) (s : State) : Host.Outcome State Fault Refusal :=
  .next (s.tstream 2 false part arg id (fun t => t.spillCommand arg))
def execSpillEnd (part arg : Byte) (s : State) : Host.Outcome State Fault Refusal :=
  .next (s.tstream 3 true part arg id State.spillOff)
def execBeatReset (part arg : Byte) (s : State) : Host.Outcome State Fault Refusal :=
  .next (s.tstream 4 true part arg (fun t => { t with beat := 0 }) id)
def execEpoch (part arg : Byte) (s : State) : Host.Outcome State Fault Refusal :=
  .next (s.tstream 5 false part arg (fun t => { t with epoch := arg }) id)

/-- R388: the frame fails a check other than that of its partition. Bit position 1 of R386 is bit 27 of `f`. -/
def badFrame (f : BitVec 28) : Bool :=
  let code := fld f 23 4
  crc6 (fld f 7 20) 20 != fld f 1 6 || !f.getLsbD 0 || 6 ≤ code || (code != 2 && code != 5 && fld f 7 8 != 0)

/-- DISCARDED_TSTREAM_FRAME: a frame for another partition is discarded without a count; nothing is sampled without BEATCLK (R384). -/
def State.tstreamDiscard (s : State) (f : BitVec 28) : State :=
  if f.getLsbD 27 || !s.tim.present then s else if badFrame f then s.count bTIM 2 1 else s

def execDiscardedTstreamFrame (f : BitVec 28) (s : State) : Host.Outcome State Fault Refusal := .next (s.tstreamDiscard f)

end Sys2Proof.Machine
end

