-- ==== Sys2Proof/Machine/Routes.lean ====
section
/-! DEFINITION. Routers, network interfaces and their domains, route tables and the tree rule (14). -/

namespace Sys2Proof.Machine

/-- R543: the router and slot of NI `n`. -/
def routerOf (n : Nat) : Nat := n % 64
def slotOf (n : Nat) : Nat := n / 64

/-- NOC_NICTL_n.STATE (R560, R566, R568): 0 OPEN, 1 CLOSING, 2 ASLEEP, 3 QUIESCED. -/
def State.niState (s : State) (n : Nat) : Nat :=
  if !(s.reg bNOC (0x100 + n)).getLsbD 22 then 3 else if !s.niUp n then 2 else if s.rfld bNOC (0x100 + n) 20 2 = 1 then 1 else 0

/-! ### Head flits (R545) -/

def hRoute (h : BitVec 256) : Nat := fld h 0 36
def hVc (h : BitVec 256) : Nat := fld h 36 2
def hLen (h : BitVec 256) : Nat := fld h 38 5
def hSrc (h : BitVec 256) : Nat := fld h 43 7
def hDst (h : BitVec 256) : Nat := fld h 50 7
def hKind (h : BitVec 256) : Nat := fld h 57 3
def hWorld (h : BitVec 256) : Bool := h.getLsbD 60
def hTree (h : BitVec 256) : Bool := h.getLsbD 61
def hTag (h : BitVec 256) : Nat := fld h 62 12
def hView (h : BitVec 256) : Nat := fld h 82 2
def hAddr (h : BitVec 256) : Nat := fld h 84 36
def hBytes (h : BitVec 256) : Nat := fld h 120 10 + 1

/-- Flits of a packet of `n` bytes of data. -/
def flits (n : Nat) : Nat := 1 + (n + 31) / 32

/-- A head flit of its fields. -/
def headOf (route vc len src dst kind : Nat) (world tree : Bool) (tag status view addr bcnt : Nat) : BitVec 256 :=
  BitVec.ofNat 256 (route % 2 ^ 36 + vc % 4 * 2 ^ 36 + len % 32 * 2 ^ 38 + src % 128 * 2 ^ 43 + dst % 128 * 2 ^ 50
    + kind % 8 * 2 ^ 57 + world.toNat * 2 ^ 60 + tree.toNat * 2 ^ 61 + tag % 4096 * 2 ^ 62 + status % 256 * 2 ^ 74
    + view % 4 * 2 ^ 82 + addr % 2 ^ 36 * 2 ^ 84 + bcnt % 1024 * 2 ^ 120)

/-- The network runs: its domain is on and out of reset. -/
def State.nocUp (s : State) : Bool := s.domainUp 353
/-- NOC_MODE.TREE (R559). -/
def State.treeMode (s : State) : Bool := (s.reg bNOC 0).getLsbD 0

/-! ### Injection regulators (R553, R568) -/

/-- R553: the bucket of class `c` at NI `n` holds `len` tokens, or its regulator is off. -/
def State.hasTokens (s : State) (n c len : Nat) : Bool :=
  s.rfld bNOC (0x400 + 4 * n + c) 16 8 == 0 || len ≤ sget 0 s.noc.tokens (4 * n + c)

/-- R553, R568: NI `n` may send a packet of `len` flits in class `c`. -/
def State.mayInject (s : State) (n c len : Nat) : Bool := (s.reg bNOC (0x100 + n)).getLsbD 23 && s.hasTokens n c len

/-- R553: the packet's tokens leave the bucket. -/
def State.spend (s : State) (n c len : Nat) : State :=
  if s.rfld bNOC (0x400 + 4 * n + c) 16 8 = 0 then s
  else s.mapNoc (fun x => { x with tokens := sput 0 x.tokens (4 * n + c) (sget 0 x.tokens (4 * n + c) - len) })

/-! ### Links (R541, R542) -/

/-- The router a link port leads to. -/
def linkTo (r port : Nat) : Nat :=
  let x := r % 8
  let y := r / 8
  if port = 0 then x + 8 * ((y + 1) % 8) else if port = 1 then (x + 1) % 8 + 8 * y
  else if port = 2 then x + 8 * ((y + 7) % 8) else (x + 7) % 8 + 8 * y

/-- An output port of a router is in use: not disabled, and a slot holds an NI (R560). -/
def State.portOk (s : State) (r port : Nat) : Bool :=
  !(sget 0 s.noc.disabled r).getLsbD port && (port < 4 || r + 64 * (port - 4) < 111)

/-- The router after `k` hops through one port. -/
def hopsFrom (r port k : Nat) : Nat :=
  match k with
  | 0 => r
  | j + 1 => hopsFrom (linkTo r port) port j

/-- Every link of a straight run is in use. -/
def State.runOk (s : State) (r port k : Nat) : Bool := (List.range k).all (fun i => s.portOk (hopsFrom r port i) port)

/-- R550: the hops of one dimension, `d` steps through port `p` or 8 − d through port `q`: the shorter way, `p` on a tie, the
other way round a disabled link. -/
def State.leg (s : State) (r d p q : Nat) : List Nat :=
  let short := if d ≤ 4 then (p, d) else (q, 8 - d)
  let long := if d ≤ 4 then (q, 8 - d) else (p, d)
  if d = 0 then [] else if s.runOk r short.1 short.2 then List.replicate short.2 short.1 else List.replicate long.2 long.1

/-- The codes of the route from NI `a` to NI `b`: X before Y, then the slot. -/
def State.routeCodes (s : State) (a b : Nat) : List Nat :=
  let r := routerOf a
  let t := routerOf b
  let xs := s.leg r ((t % 8 + 8 - r % 8) % 8) 1 3
  let ys := s.leg (t % 8 + 8 * (r / 8)) ((t / 8 + 8 - r / 8) % 8) 0 2
  xs ++ ys ++ [4 + slotOf b]

/-- Codes packed three bits each, code 0 lowest. -/
def packCodes (l : List Nat) : Nat :=
  match l with
  | [] => 0
  | c :: r => c + 8 * packCodes r

/-- The two words of route entry `i` of NI `n` (R549). Firmware has written them once start-up is over. -/
def State.routeEntry (s : State) (n i : Nat) : Word × Word :=
  let u := Config.routeUse n i
  let dst := fld u 0 7
  if s.sys.boot = .done && u.getLsbD 9 && dst < 111 then
    let c := packCodes (s.routeCodes n dst)
    (BitVec.ofNat 24 c, BitVec.ofNat 24 (c / 2 ^ 24 % 2 ^ 12 + fld u 7 2 * 2 ^ 12 + dst * 2 ^ 14 + 2 ^ 23))
  else (0, 0)

/-- R558: the port of the next hop of a packet at router `r` for NI `dst` under the tree rule: south and west climb to the root,
north and east descend. -/
def treePort (r dst : Nat) : Nat :=
  let t := routerOf dst
  if r = t then 4 + slotOf dst
  else if r % 8 = t % 8 then (if r / 8 < t / 8 then 0 else 2)
  else if r / 8 ≠ 0 then 2
  else if r % 8 < t % 8 then 1 else 3

/-! ### Probes (R555 to R557) -/

/-- A probe that is off. -/
def Probe.off : Probe where
  mode := 0
  router := 0
  port := 0
  cls := 0
  kinds := 0
  src := 0
  anySrc := false
  dst := 0
  anyDst := false
  bank := 64
  prev := 0
  packets := 0
  flits := 0
  wpos := 0
  loss := 0

def State.probe (s : State) (i : Nat) : Probe := sget Probe.off s.noc.probes i
def State.setProbe (s : State) (i : Nat) (x : Probe) : State := s.mapNoc (fun n => { n with probes := sput Probe.off n.probes i x })

/-- A probe matches a head that passes port `port` of router `r`. -/
def Probe.matches_ (x : Probe) (r port : Nat) (h : BitVec 256) : Bool :=
  x.mode != 0 && x.router == r && x.port == port && hVc h < 3 && x.cls.testBit (hVc h) && x.kinds.testBit (hKind h)
    && (x.anySrc || x.src == hSrc h) && (x.anyDst || x.dst == hDst h)

/-- R556: the record of a head at a NoC cycle count. -/
def traceRecord (cycles : BitVec 48) (r port : Nat) (h : BitVec 256) : List Cont :=
  containers (leBytes 6 cycles.toNat ++ leBytes 1 r ++ leBytes 1 port ++ leBytes 16 (fld h 0 128) ++ leBytes 2 (fld h 128 16)
    ++ leBytes 6 0)

/-- Probe `i` sees a head pass; a record for a bank that is being wiped is discarded (R591). Whether the TRACE class carries a record in
time (R557; log entry 112), and how many NoC cycles have gone by since the last record (R556; log entry 36), are free values (DESIGN
CHOICE). -/
def State.probeSee (s : State) (r port : Nat) (h : BitVec 256) (i : Nat) : State :=
  let x := s.probe i
  if !x.matches_ r port h then s
  else
    let y := { x with packets := (x.packets + 1) % 2 ^ 48, flits := (x.flits + hLen h) % 2 ^ 48 }
    let stop := x.mode == 3 && 32768 ≤ x.wpos
    if x.mode < 2 || stop || s.owner x.bank ≠ 0x30 + i then s.setProbe i y
    else
      let late := (s.drawn.freeBits 1).getLsbD 0
      let now := s.noc.cycles + s.freeBits 48
      let t := s.drawn.drawn.mapNoc (fun n => { n with cycles := now })
      if late then t.setProbe i { y with loss := x.loss + 1 }
      else
        let at_ := x.wpos % 32768
        (if s.wiping x.bank then t else t.putRaw x.bank (8 * at_) (traceRecord now r port h)).setProbe i { y with
          wpos := if x.mode = 2 then (at_ + 1) % 32768 else x.wpos + 1 }

/-- Every probe sees a head pass. -/
def State.probesSee (s : State) (r port : Nat) (h : BitVec 256) : State :=
  (List.range 16).foldl (fun s i => s.probeSee r port h i) s

/-! ### What bounces a request (R560 to R562) -/

/-- Every output port along codes from router `r` is in use. -/
def State.pathOk (s : State) (r : Nat) (codes : List Nat) : Bool :=
  match codes with
  | [] => true
  | c :: rest => s.portOk r c && (4 ≤ c || s.pathOk (linkTo r c) rest)

/-- The ports that the tree rule takes from router `r` to NI `dst`, at most `n` of them. -/
def treeCodes (r dst n : Nat) : List Nat :=
  match n with
  | 0 => []
  | k + 1 => let c := treePort r dst; if 4 ≤ c then [c] else c :: treeCodes (linkTo r c) dst k

/-- R561: the dead-letter office counts a receipt and records it. -/
def State.noteReceipt (s : State) (src dst : Nat) (st : Status) : State :=
  (s.count bNOC 0x010 1).setReg bNOC 0x012 (BitVec.ofNat 24 (src * 2 ^ 15 + dst * 2 ^ 8 + st.code))

/-- R549, R559, R560: the route tables have been written, or the network is in tree mode. -/
def State.routed (s : State) : Bool := s.sys.boot == .done || s.treeMode

/-- R560, R562, R566: what bounces a request from NI `src` to the memory NI `dst` on its route: a disabled port, or a QUIESCED
destination. A memory NI that is CLOSING or ASLEEP holds the request and wakes. -/
def State.bounced (s : State) (src dst : Nat) : Option Status :=
  let codes := if s.treeMode then treeCodes (routerOf src) dst 32 else s.routeCodes src dst
  if !s.pathOk (routerOf src) codes then some .routeFault
  else if s.niState dst = 3 then some .busy
  else none

/-- The NI of the controller that holds a DRAM address (R571). -/
def dramNi (a : Nat) : Nat := 16 + 4 * stackOf a + a / 512 % 4

/-! ### Packets in the network (R545, R560) -/

/-- KINDs that ask for an answer. -/
def answered (k : Nat) : Bool := k == 0 || k == 2

/-- A flight enters the network at an NI's router. -/
def State.launch (s : State) (n : Nat) (k : Packet) : State :=
  s.mapNoc (fun x => { x with flights := x.flights ++ [⟨k, routerOf n, 0, none, none, false⟩] })

/-- The head of a bounced packet on its way to the office: CTRL, by the tree rule, without data. -/
def officeHead (h : BitVec 256) : BitVec 256 := setFld (setFld h 36 7 (1 * 4)) 61 1 1

/-- Router `r` bounces a head, which goes to the dead-letter office; a RECEIPT is discarded and counted (R563). -/
def State.bounce (s : State) (r : Nat) (h : BitVec 256) (st : Status) : State :=
  if hKind h = 5 then s.count bNOC 0x011 1
  else s.mapNoc (fun x => { x with flights := x.flights ++ [⟨⟨officeHead h, []⟩, r, 0, none, some st, false⟩] })

/-! ### Transfers that one command carries out whole (R29, R551, R594, R602) -/

/-- A transfer between an NI and a memory: the NIs, the class, whether it writes, its world, view, address and bytes. -/
structure Transfer where
  src : Nat
  dst : Nat
  vc : Nat
  wr : Bool
  world : Bool
  view : Nat
  addr : Nat
  n : Nat
  deriving DecidableEq, Repr

/-- The port codes from NI `a` to NI `b`: those of the route tables, or of the tree rule. -/
def State.pathTo (s : State) (a b : Nat) : List Nat := if s.treeMode then treeCodes (routerOf a) b 32 else s.routeCodes a b

/-- The routers on a path of port codes. -/
def routersOn (r : Nat) (codes : List Nat) : List Nat :=
  match codes with
  | [] => []
  | c :: rest => r :: routersOn (linkTo r c) rest

/-- What holds a transfer: the NoC is in reset, its mode changes (R559), a router on its way is quiesced (R564), or the memory's NI is
CLOSING or ASLEEP (R566). -/
def State.wayHeld (s : State) (a b : Nat) : Bool :=
  !s.nocUp || s.turning || s.noc.quiesced.any (fun e => (routersOn (routerOf a) (s.pathTo a b)).contains e.1)
    || !s.niUp b || s.rfld bNOC (0x100 + b) 20 2 == 1

/-- Where a head stops on its way: the router whose next port is not in use or is an NI's, and the links before it. -/
def State.stopAt (s : State) (r : Nat) (codes : List Nat) : Nat × Nat :=
  match codes with
  | [] => (r, 0)
  | c :: rest => if 4 ≤ c || !s.portOk r c then (r, 0) else let (q, k) := s.stopAt (linkTo r c) rest; (q, k + 1)

/-- R546, R556: probes see a head on the first `k` ports of a path. -/
def State.passAlong (s : State) (r : Nat) (codes : List Nat) (k : Nat) (h : BitVec 256) : State :=
  match k, codes with
  | j + 1, c :: rest =>
    (s.probesSee r c (if hTree h then h else setFld h 0 36 (packCodes rest))).passAlong (linkTo r c) rest j h
  | _, _ => s

/-- The head flits of a transfer: its request, and its answer with a status; the tag is the source's. -/
def State.askHead (s : State) (x : Transfer) (tag : Nat) : BitVec 256 :=
  headOf (if s.treeMode then 0 else packCodes (s.pathTo x.src x.dst)) x.vc (if x.wr then flits x.n else 1) x.src x.dst
    (if x.wr then 2 else 0) x.world s.treeMode tag 0 x.view x.addr (x.n - 1)
def State.replyHead (s : State) (x : Transfer) (tag : Nat) (st : Status) : BitVec 256 :=
  let n := if x.wr || st != .ok then 0 else x.n
  headOf (if s.treeMode then 0 else packCodes (s.pathTo x.dst x.src)) x.vc (flits n) x.dst x.src 3 (s.niWorld x.dst) s.treeMode tag
    st.code 0 0 (n - 1)

/-- Probes see a transfer and its answer go by; nothing happens while no probe is on. -/
def State.seen (s : State) (x : Transfer) (st : Status) : State :=
  if s.noc.probes.isEmpty then s
  else
    let tag := (s.freeBits 12).toNat
    let go := s.pathTo x.src x.dst
    let come := s.pathTo x.dst x.src
    (s.drawn.passAlong (routerOf x.src) go go.length (s.askHead x tag)).passAlong (routerOf x.dst) come come.length (s.replyHead x tag st)

/-- Probes see a plain WRITE go by, which has no answer. -/
def State.sent (s : State) (x : Transfer) : State :=
  if s.noc.probes.isEmpty then s
  else
    let go := s.pathTo x.src x.dst
    s.drawn.passAlong (routerOf x.src) go go.length (setFld (s.askHead x (s.freeBits 12).toNat) 57 3 1)

/-- The receipt of a bounced head, sent by the tree rule (DEDUCED, log entry 37). -/
def receiptFor (h : BitVec 256) (st : Status) : BitVec 256 :=
  headOf 0 0 1 110 (hSrc h) 5 true true (hTag h) st.code 0 (hKind h + hDst h * 8) 0

/-- Probes see a transfer that is bounced: its head up to the router that bounces it, on the way to the office, and the receipt. -/
def State.seenBack (s : State) (x : Transfer) (st : Status) : State :=
  if s.noc.probes.isEmpty then s
  else
    let h := s.askHead x (s.freeBits 12).toNat
    let go := s.pathTo x.src x.dst
    let (q, k) := s.stopAt (routerOf x.src) go
    let away := treeCodes q 110 32
    let back := treeCodes (routerOf 110) x.src 32
    (((s.drawn.passAlong (routerOf x.src) go k h).passAlong q away away.length (officeHead h)).passAlong (routerOf 110) back back.length
      (receiptFor h st))

end Sys2Proof.Machine
end

