-- ==== Sys2Proof/Machine/Distribution.lean ====
section
/-! DEFINITION. Ingest records and the distribution network (09), tile ingress (02), the egress drain and mailbags (02, 15). -/

namespace Sys2Proof.Machine

/-! ### Ingest (R391 to R399) -/

/-- The entry that the directory and tables hold for a postcode, with its logical tile. -/
def Distribution.find (d : Distribution) (pc : Nat) : Option (Nat × Entry) :=
  if 2 ^ 24 ≤ pc then none
  else match sget 0 d.dir (pc / 16) with
    | 0 => none
    | t + 1 => ((sget [] d.tables t).find? (fun e => e.postcode == pc)).map (fun e => (t, e))

/-- The array cycle in which something happens: the beat, and the array cycles issued (DESIGN CHOICE, log entry 100). -/
def State.arrayTime (s : State) : BitVec 48 × Nat := (s.postmark, s.cycle)

/-- What becomes of slot `i` of a record at ingest port `p`: the cause of its discard, or its tile and payload. -/
def State.slot (s : State) (p : Nat) (r : BitVec 256) (i : Nat) : Nat ⊕ (Nat × Payload) :=
  match s.dn.find (fld r 0 24 + i) with
  | none => .inl 0
  | some (t, e) =>
    if s.regionWorld (p / 2) && !s.tileWorld t then .inl 4
    else if fld r 40 4 + 1 ≠ e.width then .inl 1
    else .inr (t, { pe := e.pe, off := e.off, width := e.width, value := r.extractLsb' (64 + 16 * i) 16,
                    pmref := r.extractLsb' 24 16, port := p, slot := i, at_ := s.arrayTime })

/-- The slots of a record that carry a payload, in order. -/
def State.slots (s : State) (p : Nat) (r : BitVec 256) : List (Nat ⊕ (Nat × Payload)) :=
  ((List.range 12).filter (fun i => r.getLsbD (44 + i))).map (s.slot p r)

/-- The tile queue that a payload names (R398). -/
def State.tileQueue (s : State) (t : Nat) : List Payload := sget [] s.dn.queues t

/-- R398: every tile queue has a place for each of the record's payloads. -/
def State.roomFor (s : State) (xs : List (Nat ⊕ (Nat × Payload))) : Bool :=
  xs.all (fun x =>
    match x with
    | .inl _ => true
    | .inr (t, _) =>
      (s.tileQueue t).length + (xs.filter (fun y => match y with | .inr (u, _) => u == t | .inl _ => false)).length ≤ 1024)

/-- R398: a payload joins a queue behind what came before it; of one array cycle, in ascending order of ingest port. -/
def queuePayload (y : Payload) (l : List Payload) : List Payload :=
  match l with
  | [] => [y]
  | z :: r => if z.at_ = y.at_ && y.port < z.port then y :: z :: r else z :: queuePayload y r

/-- One slot of an accepted record. -/
def State.takeSlot (s : State) (x : Nat ⊕ (Nat × Payload)) : State :=
  match x with
  | .inl c => s.count bDN (0x010 + c) 1
  | .inr (t, y) => { s with dn := { s.dn with queues := sput [] s.dn.queues t (queuePayload y (s.tileQueue t)) } }

/-- The ingest port takes the record, or keeps it waiting. -/
def State.accept (s : State) (p : Nat) (r : BitVec 256) : Option State :=
  let xs := s.slots p r
  if s.roomFor xs then some (xs.foldl State.takeSlot s) else none

/-- A region's design presents records: it runs (R422; DEDUCED, log entry 91), and it is not the golden image's, whose monitors deliver none
(R439). -/
def State.delivers (s : State) (r : Nat) : Bool := s.runs r && !s.tw.golden.getLsbD r

/-- INGEST_RECORD: a port takes records that its region's design presents, while no record waits at it. A record that finds no room waits,
and the port cycle counts in DN_STALL (R398). -/
def State.ingest (s : State) (p : Nat) (r : BitVec 256) : State :=
  if !s.delivers (p / 2) || s.dn.waiting.any (fun e => e.1 == p) then s
  else if fld r 56 8 ≠ 0 then s.count bDN 0x015 1
  else match s.accept p r with
    | some t => t
    | none => ({ s with dn := { s.dn with waiting := s.dn.waiting ++ [(p, r)] } } : State).count bDN (0x020 + p) 1

def execIngestRecord (n : Fin 32) (rec : BitVec 256) (s : State) : Host.Outcome State Fault Refusal := .next (s.ingest n rec)

/-- STALLED_RECORD_ACCEPT: one port cycle at a port where a record waits (DESIGN CHOICE, log entry 24): the record goes in if there is
room; without, the cycle counts in DN_STALL. A port whose region does not run presents none (R422). -/
def State.ingestStalled (s : State) (p : Nat) : State :=
  match s.dn.waiting.find? (fun e => e.1 == p) with
  | none => s
  | some (_, r) =>
    if !s.delivers (p / 2) then s
    else
      match s.accept p r with
      | none => s.count bDN (0x020 + p) 1
      | some t => { t with dn := { t.dn with waiting := t.dn.waiting.filter (fun e => e.1 != p) } }

def execStalledRecordAccept (n : Fin 32) (s : State) : Host.Outcome State Fault Refusal := .next (s.ingestStalled n)

/-! ### Tile ingress (R69 to R72, R396) -/

/-- The cause for which a payload is discarded for its age, if any. -/
def State.tooOldOrEarly (s : State) (y : Payload) : Option Nat :=
  let age := (s.tim.beat.extractLsb' 0 16 - y.pmref).toNat
  let late := s.rfld bDN 0 0 16
  if 32768 ≤ age then some 3 else if late ≠ 0 && late < age then some 2 else none

/-- A payload is written into the staging of PE `i` of physical tile `t`; a bit written since the last TAKE counts (R72). -/
def State.stage (s : State) (t i : Nat) (y : Payload) : State :=
  let bits := (List.range y.width).map (fun j => (y.off + j, y.value.getLsbD j))
  let hit := bits.any (fun e => (pget s.cv.written e.1).getLsbD i)
  let s1 := s.mapCv (fun c => { c with
    stage := bits.foldl (fun m e => pset m e.1 (setBit (pget m e.1) i e.2)) c.stage,
    written := bits.foldl (fun m e => pset m e.1 (setBit (pget m e.1) i true)) c.written })
  if hit then s1.count (bTCC + t % 16) (0x040 + t / 16) 1 else s1

/-- R70: payload bits that the ingress port of logical tile `l` has written in this array cycle. -/
def State.wroteNow (s : State) (l : Nat) : Nat :=
  let w := sget (0, 0, 0) s.dn.wrote l
  if w.2 = s.arrayTime then w.1 else 0

/-- R70, R398: what leaves a queue in one array cycle besides the payloads discarded for their age, with room for `n` bits. -/
def State.leaving (s : State) (n : Nat) (ys : List Payload) : List Payload :=
  match ys with
  | [] => []
  | y :: r =>
    if (s.tooOldOrEarly y).isSome then s.leaving n r
    else if n < y.width then [] else y :: s.leaving (n - y.width) r

/-- R399: the first in order of ingest port and slot. -/
def firstPayload (ys : List Payload) : Option Payload :=
  ys.foldl (fun b y => match b with
    | none => some y
    | some z => if y.port < z.port || (y.port = z.port && y.slot < z.slot) then some y else some z) none

/-- PAYLOAD_WRITE: a payload of logical tile `l`'s queue: the oldest is discarded if its age asks for that; else, of those that leave in
this array cycle, the first in the order of R399 is written. Where the cycle has taken its 128 bits they wait (R70). A power-gated tile
receives none (R71). -/
def State.payloadWrite (s : State) (l : Nat) : State :=
  let rest (ys : List Payload) : State := { s with dn := { s.dn with queues := sput [] s.dn.queues l ys } }
  match s.tileQueue l with
  | [] => s
  | y :: ys =>
    match s.tooOldOrEarly y with
    | some c => (rest ys).count bDN (0x010 + c) 1
    | none =>
      match firstPayload (s.leaving (128 - s.wroteNow l) (y :: ys)) with
      | none => s
      | some z =>
        let s1 := rest ((y :: ys).erase z)
        let s2 : State := { s1 with dn := { s1.dn with wrote := sput (0, 0, 0) s1.dn.wrote l (s.wroteNow l + z.width, s.arrayTime) } }
        match physTile s.cv.failed l with
        | some t => if s.cv.power.getLsbD t then s2.stage t (peAt t (z.pe / 64) (z.pe % 64)) z else s2
        | none => s2

def execPayloadWrite (n : Fin 256) (s : State) : Host.Outcome State Fault Refusal := .next (s.payloadWrite n)

/-! ### Egress (R78 to R80, R650) -/

/-- The enabled mailbag that column `c` feeds (R592). -/
def State.mailbagOf (s : State) (c : Nat) : Option Nat :=
  (List.range 16).find? (fun k => (s.reg bMBG (0x010 + k)).getLsbD 23 && (s.reg bMBG (0x010 + k)).getLsbD c)

/-- Base address and record count of a mailbag's ring. -/
def State.ringOf (s : State) (k : Nat) : Nat × Nat :=
  (s.rfld bMBG k 0 14 * 2 ^ 20, 2 ^ (s.rfld bMBG (0x010 + k) 18 4 + 16))

/-- R593: the record of PE `i` of logical coordinates (x, y). -/
def State.egressRecord (s : State) (i x y : Nat) (world : Bool) : BitVec 128 :=
  let pm := bitsOf 48 (fun b => (pget s.cv.mark b).getLsbD i)
  let out := bitsOf 16 (fun b => (pget s.cv.egress b).getLsbD i)
  BitVec.ofNat 128 (pm.toNat + out.toNat * 2 ^ 48 + x * 2 ^ 64 + y * 2 ^ 80 + world.toNat * 2 ^ 96)

/-- One drained entry at its tile-column controller (R80, R554, R650; DESIGN CHOICE, log entry 25). -/
def State.egressEntry (s : State) (t i : Nat) : State :=
  match logTile s.cv.failed t with
  | none => s
  | some l =>
    let c := t % 16
    let keep := match s.mailbagOf c with
      | some k => s.mayInject c 2 2 && !(s.tileWorld l && !s.dramWorld (s.ringOf k).1)
      | none => false
    if keep then
      let r := s.egressRecord i (64 * (l % 16) + pePos i) (64 * (l / 16) + peSeg i) (s.tileWorld l)
      s.mapMem (fun m => { m with egress := sput [] m.egress c (sget [] m.egress c ++ [(t / 16, r)]) })
    else s.count (bTCC + c) (0x060 + t / 16) 1

/-- The pending PEs of a tile in drain order. -/
def State.drainOrder (s : State) (t : Nat) : List Nat :=
  (List.range 4096).filterMap (fun j => let i := peAt t (j / 64) (j % 64); if s.cv.pending.getLsbD i then some i else none)

/-- EGRESS_DRAIN: up to 8 pending PEs of physical tile `t`. -/
def State.egressDrain (s : State) (t : Nat) : State :=
  ((s.drainOrder t).take 8).foldl (fun s i =>
    (s.egressEntry t i).mapCv (fun c => { c with pending := setBit c.pending i false })) s

def execEgressDrain (n : Fin 272) (s : State) : Host.Outcome State Fault Refusal := .next (s.egressDrain n)

/-! ### Mailbags (R592 to R596) -/

/-- R596: reports a ring whose fill has crossed three quarters; forgets the crossing below one half. -/
def State.mailbagFill (s : State) (k : Nat) : State :=
  let n := (s.ringOf k).2
  let fill := ((s.reg bMBG (0x020 + k)).toNat + n - (s.reg bMBG (0x030 + k)).toNat % n) % n
  if s.mem.above.getLsbD k then
    if 2 * fill < n then s.mapMem (fun m => { m with above := setBit m.above k false }) else s
  else if 3 * n ≤ 4 * fill then
    let sess := match s.sys.claims.find? (fun x => x.cls == 2 && x.idx == k) with | some x => x.sess | none => 0
    let t := (s.mapMem (fun m => { m with above := setBit m.above k true })).raiseLine 7
    t.eventOf 0x09 k .ok bMBG sess
  else s

/-- R595: one record into mailbag `k`. -/
def State.mailbagPut (s : State) (k : Nat) (r : BitVec 128) : State :=
  let (base, n) := s.ringOf k
  let wr := (s.reg bMBG (0x020 + k)).toNat % n
  let rd := (s.reg bMBG (0x030 + k)).toNat
  let store (t : State) : State := (t.dwrite (base + 16 * wr) (leBytes 16 r.toNat)).setReg bMBG (0x020 + k)
    (BitVec.ofNat 24 ((wr + 1) % n))
  if (wr + 1) % n = rd % n then
    let t := s.count bMBG (0x040 + k) 1
    if (s.reg bMBG (0x010 + k)).getLsbD 22 then
      (store t).setReg bMBG (0x030 + k) (BitVec.ofNat 24 ((rd + 1) % n))
    else t
  else store s

/-- R594: records of the next packet of a mailbag: a packet fills a 512-byte line of the ring at most to its end. -/
def State.packetRoom (s : State) (k : Nat) : Nat := 32 - (s.reg bMBG (0x020 + k)).toNat % (s.ringOf k).2 % 32

/-- The transfer of a CAPTURE packet of `n` records of column `c` to mailbag `k`: to the controller of the line that MBG_WR_k is in. -/
def State.captureTransfer (s : State) (c k n : Nat) : Transfer :=
  let (base, size) := s.ringOf k
  let a := base + 16 * ((s.reg bMBG (0x020 + k)).toNat % size)
  { src := c, dst := dramNi a, vc := 2, wr := true, world := s.niWorld c, view := 0, addr := a, n := 16 * n }

/-- What bounces a CAPTURE packet: its path, or a lost stack (R560, R712). -/
def State.captureLost (s : State) (x : Transfer) : Option Status :=
  if s.lost (stackOf x.addr) then some .routeFault else s.bounced x.src x.dst

/-- CAPTURE_PACKET: up to 32 records that column `c` holds, once its regulator and the network let the packet go. A packet that is bounced
goes to the dead-letter office, and its entries count as dropped, each for the physical row of its tile (R84, R712). -/
def State.capture (s : State) (c : Nat) : State :=
  match s.mailbagOf c with
  | none => s
  | some k =>
    let rs := (sget [] s.mem.egress c).take (s.packetRoom k)
    let len := 1 + (rs.length + 1) / 2
    let x := s.captureTransfer c k rs.length
    if rs.isEmpty || !s.mayInject c 2 len || !s.routed || (s.captureLost x == none && s.wayHeld c x.dst) then s
    else
      let t := (s.spend c 2 len).mapMem (fun m => { m with egress := sput [] m.egress c ((sget [] m.egress c).drop rs.length) })
      match s.captureLost x with
      | some st =>
        let (q, j) := s.stopAt (routerOf c) (s.pathTo c x.dst)
        let u := rs.foldl (fun s r => s.count (bTCC + c) (0x060 + r.1) 1) t
        let h := setFld (s.askHead x (s.freeBits 12).toNat) 57 3 1
        (u.drawn.passAlong (routerOf c) (s.pathTo c x.dst) j h).bounce q h st
      | none =>
        (((rs.foldl (fun s r => s.mailbagPut k r.2) t).mailbagFill k).sent x)

def execCapturePacket (n : Fin 16) (s : State) : Host.Outcome State Fault Refusal := .next (s.capture n)

end Sys2Proof.Machine
end

