-- ==== Sys2Proof/Machine/Placement.lean ====
section
/-! DEFINITION. The sorting office (11): the embedding of a channel map, the order in which candidates are tried, their
acceptance, the reasons of failure, and what a placement consists of. -/

namespace Sys2Proof.Machine

/-! ### Parameters (R453, R632) -/

/-- The parameters in payload words W0 and W1 of PLACE. -/
structure PlaceParams where
  packed : Bool
  tileAlign : Bool
  powerOff : Bool
  orient : Nat
  dilMax : Nat
  loadLimit : Nat
  deriving DecidableEq, Repr

def placeParams (w0 w1 : Word) : PlaceParams where
  packed := w0.getLsbD 0
  tileAlign := w0.getLsbD 1
  powerOff := w0.getLsbD 2
  orient := fld w0 3 4
  dilMax := fld w0 7 3
  loadLimit := fld w1 0 16

/-- The words hold parameters of R453 and nothing else. -/
def placeWordsOk (w0 w1 : Word) : Bool :=
  fld w0 10 14 == 0 && fld w0 3 4 ≤ 8 && 1 ≤ fld w0 7 3 && fld w0 7 3 ≤ 4 && fld w1 16 8 == 0

/-! ### The declarations of a program (R448, R449) -/

/-- Addresses of the user area (R47). -/
def userBit (a : Nat) : Bool := a < 1904 || (2048 ≤ a && a < 3968)

/-- R449. -/
def declarationsOk (cs : List Channel) (st : List Stencil) (kept : List Nat) : Bool :=
  kept.all userBit
    && st.all (fun x => kept.contains x.mem && (List.range x.offs.length).all (fun j => kept.contains (x.sel + j))
        && x.offs.all (fun o => !(o.1 == 0 && o.2 == 0)))
    && cs.all (fun c => (List.range 64).all (fun k => !c.stencils.testBit k || st.any (fun x => x.k == k)))

/-! ### Sites and units (R450, R455) -/

/-- A site: the channels of one PE, in ascending order of W. -/
structure Site where
  u : Int
  v : Int
  region : Nat
  chans : List Channel
  deriving DecidableEq, Repr

/-- Ordered insertion by W. -/
def insertW (c : Channel) (l : List Channel) : List Channel :=
  match l with
  | [] => [c]
  | d :: r => if c.w < d.w then c :: d :: r else d :: insertW c r

/-- A channel joins its site. -/
def joinSite (c : Channel) (l : List Site) : List Site :=
  match l with
  | [] => [{ u := c.u, v := c.v, region := c.region, chans := [c] }]
  | s :: r =>
    if s.u = c.u && s.v = c.v && s.region = c.region then { s with chans := insertW c s.chans } :: r else s :: joinSite c r

def sitesOf (cs : List Channel) : List Site := cs.foldl (fun l c => joinSite c l) []

def Site.width (s : Site) : Nat := (s.chans.map (·.width)).sum
def Site.member (s : Site) (k : Nat) : Bool := s.chans.any (fun c => c.stencils.testBit k)

/-- The placement units: the whole map, or one for each region tag in ascending order. -/
def unitsOf (packed : Bool) (ss : List Site) : List (Nat × List Site) :=
  if packed then
    ((List.range 256).map (fun t => (t, ss.filter (fun s => s.region == t)))).filter (fun u => !u.2.isEmpty)
  else [(0, ss)]

/-- R451. -/
def oriented (o : Nat) (u v : Int) : Int × Int :=
  match o with
  | 0 => (u, v)
  | 1 => (v, u)
  | 2 => (-u, v)
  | 3 => (u, -v)
  | 4 => (-u, -v)
  | 5 => (v, -u)
  | 6 => (-v, u)
  | _ => (-v, -u)

/-- A transform: orientation and dilations. -/
structure Xform where
  o : Nat
  sx : Nat
  sy : Nat
  deriving DecidableEq, Repr

/-- The least of a list of numbers; 0 for none. -/
def least (l : List Int) : Int := match l with | [] => 0 | a :: r => r.foldl min a

/-- R452: the sites of a unit with their places relative to the unit's origin. -/
def relative (x : Xform) (ss : List Site) : List (Site × Nat × Nat) :=
  let p (s : Site) : Int × Int := oriented x.o s.u s.v
  let u0 := least (ss.map (fun s => (p s).1))
  let v0 := least (ss.map (fun s => (p s).2))
  ss.map (fun s => (s, x.sx * ((p s).1 - u0).toNat, x.sy * ((p s).2 - v0).toNat))

/-- A placed unit's extent. -/
def extent (rs : List (Site × Nat × Nat)) : Nat × Nat :=
  ((rs.map (fun r => r.2.1)).foldl max 0 + 1, (rs.map (fun r => r.2.2)).foldl max 0 + 1)

/-- A unit at its origin. -/
def placedAt (x0 y0 : Nat) (rs : List (Site × Nat × Nat)) : List (Site × Nat × Nat) :=
  rs.map (fun r => (r.1, x0 + r.2.1, y0 + r.2.2))

/-! ### Acceptance (R454) -/

/-- Logical tile of a place. -/
def tileAt (x y : Nat) : Nat := 16 * (y / 64) + x / 64

/-- R393: the tile of every block of 16 postcodes, plus one; none when a block lies in two. -/
def blockTiles (ps : List (Site × Nat × Nat)) : Option (Sparse Nat) :=
  ps.foldl (fun acc p =>
    p.1.chans.foldl (fun acc c =>
      match acc with
      | none => none
      | some m =>
        let t := tileAt p.2.1 p.2.2 + 1
        let old := sget 0 m (c.postcode / 16)
        if old = 0 || old = t then some (sput 0 m (c.postcode / 16) t) else none) acc) (some [])

/-- The channels of a logical tile. -/
def inTile (ps : List (Site × Nat × Nat)) (t : Nat) : List Channel :=
  ps.flatMap (fun p => if tileAt p.2.1 p.2.2 = t then p.1.chans else [])

/-- A common multiple of every RATE, so that loads add exactly. -/
def loadUnit : Nat := (List.range 255).foldl (fun a i => Nat.lcm a (i + 1)) 1

/-- Declared load of channels in units of 1 / `loadUnit` bits per beat. -/
def loadOf (cs : List Channel) : Nat := (cs.map (fun c => c.width * (loadUnit / c.rate))).sum

def tableFits (ps : List (Site × Nat × Nat)) : Bool := (List.range 256).all (fun t => (inTile ps t).length ≤ 8192)
def loadFits (limit : Nat) (ps : List (Site × Nat × Nat)) : Bool :=
  limit == 0 || (List.range 256).all (fun t => loadOf (inTile ps t) ≤ limit * loadUnit)
def tilesPure (ps : List (Site × Nat × Nat)) : Bool :=
  (List.range 256).all (fun t => match inTile ps t with | [] => true | c :: r => r.all (fun d => d.region == c.region))

/-- The conditions of R454 on what is placed so far, apart from extent and hops. -/
def placesOk (q : PlaceParams) (ps : List (Site × Nat × Nat)) : Bool :=
  (blockTiles ps).isSome && tableFits ps && loadFits q.loadLimit ps && (!q.tileAlign || tilesPure ps)

/-- R452: the stencil offsets under a transform, and the lowest stencil with an offset over its budget. -/
def Stencil.moved (x : Xform) (s : Stencil) : List (Int × Int) :=
  s.offs.map (fun d => let e := oriented x.o d.1 d.2; (x.sx * e.1, x.sy * e.2))
def overHops (x : Xform) (st : List Stencil) : Option Nat :=
  (List.range 64).find? (fun k => st.any (fun s => s.k == k
    && (s.moved x).any (fun d => s.hops < d.1.natAbs + d.2.natAbs)))

/-! ### Candidates (R455) -/

/-- The displacements, in ascending order of 64·y0 + x0. -/
def displacements : List (Nat × Nat) := (List.range 4096).map (fun i => (i % 64, i / 64))

/-- A unit as placed: its tag, origin, extent and sites. -/
structure Put where
  unit : PUnit
  sites : List (Site × Nat × Nat)
  deriving DecidableEq, Repr

def putAt (tag x0 y0 : Nat) (rs : List (Site × Nat × Nat)) : Put where
  unit := { tag := tag, x0 := x0, y0 := y0, w := (extent rs).1, h := (extent rs).2 }
  sites := placedAt x0 y0 rs

/-- JOINED: the first origin that R454 accepts. -/
def joined (q : PlaceParams) (h : Nat) (rs : List (Site × Nat × Nat)) : Option (List Put) :=
  let (w, t) := extent rs
  (displacements.find? (fun d => d.1 + w ≤ 1024 && d.2 + t ≤ h && placesOk q (placedAt d.1 d.2 rs))).map
    (fun d => [putAt 0 d.1 d.2 rs])

/-- Up to a tile boundary. -/
def roundUp (on : Bool) (n : Nat) : Nat := if on then (n + 63) / 64 * 64 else n

/-- PACKED: units in shelves from (x, y), the shelf as tall as `tall`; each unit takes the first displacement that R454
accepts beside those placed before it (DEDUCED, log entry 26). -/
def packed (q : PlaceParams) (h : Nat) (units : List (Nat × List (Site × Nat × Nat))) (x y tall : Nat) (done : List Put) :
    Option (List Put) :=
  match units with
  | [] => some done
  | (tag, rs) :: rest =>
    let (w, t) := extent rs
    let fits := roundUp q.tileAlign x + w ≤ 1024
    let x1 := if fits then roundUp q.tileAlign x else 0
    let y1 := if fits then y else roundUp q.tileAlign (y + tall)
    let tall1 := if fits then tall else 0
    let before := done.flatMap (·.sites)
    match displacements.find? (fun d =>
        x1 + d.1 + w ≤ 1024 && y1 + d.2 + t ≤ h && placesOk q (before ++ placedAt (x1 + d.1) (y1 + d.2) rs)) with
    | none => none
    | some d =>
      packed q h rest (x1 + d.1 + w) y1 (max tall1 (d.2 + t)) (done ++ [putAt tag (x1 + d.1) (y1 + d.2) rs])

/-- Every (sx, sy) up to DILMAX in ascending order of sx·sy and then of sx. -/
def dilations (m : Nat) : List (Nat × Nat) :=
  (List.range 17).flatMap (fun p =>
    (List.range (m + 1)).filterMap (fun sx =>
      if sx ≠ 0 && p % sx = 0 && 1 ≤ p / sx && p / sx ≤ m then some (sx, p / sx) else none))

/-- The transforms in the order they are tried. -/
def xforms (q : PlaceParams) : List Xform :=
  (dilations q.dilMax).flatMap (fun d =>
    (if q.orient = 8 then List.range 8 else [q.orient]).map (fun o => { o := o, sx := d.1, sy := d.2 }))

/-- One transform's candidate placement, if R454 accepts one. -/
def candidate (q : PlaceParams) (h : Nat) (st : List Stencil) (units : List (Nat × List Site)) (x : Xform) :
    Option (List Put) :=
  if (overHops x st).isSome then none
  else
    let us := units.map (fun u => (u.1, relative x u.2))
    if q.packed then packed q h us 0 0 0 []
    else match us with
      | [u] => joined q h u.2
      | _ => none

/-! ### Failure (R470) -/

/-- Lowest postcode of some channels. -/
def lowestPostcode (cs : List Channel) : Nat := match cs with | [] => 0 | c :: r => r.foldl (fun a d => min a d.postcode) c.postcode

/-- Reasons 6 and 9, found from the map and MODE alone: reason, item, first postcode. -/
def earlyReason (q : PlaceParams) (ss : List Site) : Option (Nat × Nat × Nat) :=
  match ss.find? (fun s => 16 < s.width) with
  | some s => some (6, s.region, lowestPostcode s.chans)
  | none =>
    if q.packed then none
    else match ss.find? (fun s => ss.any (fun t => t.u == s.u && t.v == s.v && t.region != s.region)) with
      | some s =>
        let same := ss.filter (fun t => t.u == s.u && t.v == s.v)
        some (9, (same.map (·.region)).foldl min s.region, lowestPostcode (same.flatMap (·.chans)))
      | none => none

/-- PACKED units laid in their shelves with no displacement; the tag of the first that the Canvas has no room for. -/
def shelves (q : PlaceParams) (h : Nat) (units : List (Nat × List (Site × Nat × Nat))) (x y tall : Nat) (done : List Put) :
    List Put × Option Nat :=
  match units with
  | [] => (done, none)
  | (tag, rs) :: rest =>
    let (w, t) := extent rs
    let fits := roundUp q.tileAlign x + w ≤ 1024
    let x1 := if fits then roundUp q.tileAlign x else 0
    let y1 := if fits then y else roundUp q.tileAlign (y + tall)
    if h < y1 + t then (done, some tag)
    else shelves q h rest (x1 + w) y1 (max (if fits then tall else 0) t) (done ++ [putAt tag x1 y1 rs])

/-- The aligned blocks of 16 postcodes with channels in two tiles. -/
def splitBlocks (ps : List (Site × Nat × Nat)) : List Nat :=
  let at_ := ps.flatMap (fun p => p.1.chans.map (fun c => (c.postcode / 16, tileAt p.2.1 p.2.2)))
  (at_.filter (fun e => at_.any (fun f => f.1 == e.1 && f.2 != e.2))).map (·.1)

/-- R470, reason 4: the units in their shelves with R393 as the only condition. The first unit that keeps a block in two tiles at
every displacement gives that block: the lowest that spans at each of them, else the lowest that spans undisplaced. -/
def spanning (q : PlaceParams) (units : List (List (Site × Nat × Nat))) (x y tall : Nat) (done : List (Site × Nat × Nat)) : Option Nat :=
  match units with
  | [] => none
  | rs :: rest =>
    let (w, t) := extent rs
    let fits := roundUp q.tileAlign x + w ≤ 1024
    let x1 := if fits then roundUp q.tileAlign x else 0
    let y1 := if fits then y else roundUp q.tileAlign (y + tall)
    let here (d : Nat × Nat) : List (Site × Nat × Nat) := done ++ placedAt (x1 + d.1) (y1 + d.2) rs
    match displacements.find? (fun d => (splitBlocks (here d)).isEmpty) with
    | some d => spanning q rest (x1 + d.1 + w) y1 (max (if fits then tall else 0) (d.2 + t)) (here d)
    | none =>
      let bad := splitBlocks (here (0, 0))
      let always := bad.filter (fun b => displacements.all (fun d => (splitBlocks (here d)).contains b))
      match (if always.isEmpty then bad else always) with
      | [] => some 0
      | b :: r => some (r.foldl min b)

/-- The lowest postcode of a block that the map holds. -/
def firstIn (b : Nat) (ss : List Site) : Nat := lowestPostcode (ss.flatMap (fun s => s.chans.filter (fun c => c.postcode / 16 == b)))

/-- The lowest-numbered condition that the first candidate breaks. Reason 4 asks for a block that spans tiles at every
origin; it is also the reason where no other condition is broken. -/
def lateReason (q : PlaceParams) (h : Nat) (st : List Stencil) (units : List (Nat × List Site)) (x : Xform) : Nat × Nat × Nat :=
  let us := units.map (fun u => (u.1, relative x u.2))
  let low (n : Nat) : Nat := lowestPostcode ((units.filter (fun u => u.1 == n)).flatMap (fun u => u.2.flatMap (·.chans)))
  match us.find? (fun u => 1024 < (extent u.2).1 || h < (extent u.2).2) with
  | some u => (1, if q.packed then u.1 else 0xFF, low u.1)
  | none =>
    match overHops x st with
    | some k => (2, k, lowestPostcode (units.flatMap (fun u => u.2.flatMap (fun s => if s.member k then s.chans else []))))
    | none =>
      let (puts, excess) := shelves q h us 0 0 0 []
      match (if q.packed then excess else none) with
      | some tag => (3, tag, low tag)
      | none =>
        let ps := puts.flatMap (·.sites)
        let first := lowestPostcode (ps.flatMap (fun p => p.1.chans))
        let tiles (bad : Nat → Bool) : Option Nat := (List.range 256).find? bad
        match spanning q (us.map (·.2)) 0 0 0 [] with
        | some b => (4, 0xFF, firstIn b (units.flatMap (·.2)))
        | none =>
        match tiles (fun t => 8192 < (inTile ps t).length) with
        | some t => (5, 0xFF, lowestPostcode (inTile ps t))
        | none =>
          match tiles (fun t => q.loadLimit != 0 && q.loadLimit * loadUnit < loadOf (inTile ps t)) with
          | some t => (7, 0xFF, lowestPostcode (inTile ps t))
          | none =>
            match tiles (fun t => q.tileAlign && (match inTile ps t with
                | [] => false
                | c :: r => r.any (fun d => d.region != c.region))) with
            | some t =>
              (8, (match inTile ps t with | [] => 0 | c :: r => r.foldl (fun a d => min a d.region) c.region),
                lowestPostcode (inTile ps t))
            | none => (4, 0xFF, match splitBlocks ps with | b :: r => firstIn (r.foldl min b) (units.flatMap (·.2)) | [] => first)

/-! ### What a placement consists of (R457 to R464, R469) -/

/-- The table entries of a site at its PE (R394, R450). -/
def siteEntries (s : Site) (x y : Nat) : List Entry :=
  (s.chans.foldl (fun (acc : List Entry × Nat) c =>
    (acc.1 ++ [{ postcode := c.postcode, pe := 64 * (y % 64) + x % 64, off := acc.2, width := c.width }],
     acc.2 + c.width)) ([], 0)).1

/-- Ordered insertion of an entry by postcode. -/
def insertEntry (e : Entry) (l : List Entry) : List Entry :=
  match l with
  | [] => [e]
  | d :: r => if e.postcode < d.postcode then e :: d :: r else d :: insertEntry e r

def tablesOf (ps : List (Site × Nat × Nat)) : Sparse (List Entry) :=
  ps.foldl (fun m p =>
    let t := tileAt p.2.1 p.2.2
    sput [] m t ((siteEntries p.1 p.2.1 p.2.2).foldl (fun l e => insertEntry e l) (sget [] m t))) []

/-- The PEs whose selvage bit `j` of stencil `s` is 0 (R459). -/
def selvageZeros (s : Stencil) (j : Nat) (puts : List Put) : List (Nat × Nat) :=
  let d := (s.offs[j]?).getD (0, 0)
  puts.flatMap (fun u => u.sites.filterMap (fun p =>
    if p.1.member s.k && u.sites.any (fun r => r.1.u == p.1.u + d.1 && r.1.v == p.1.v + d.2
        && (!s.same || r.1.region == p.1.region))
    then some p.2 else none))

/-- Bit of a PE within its tile's plane. -/
def peBit (x y : Nat) : Nat := 64 * (y % 64) + x % 64

/-- The membership and selvage planes by logical tile (R458, R459). -/
def masksOf (rows : Nat) (st : List Stencil) (puts : List Put) : Sparse (BitVec 4096) :=
  let ps := puts.flatMap (·.sites)
  let key (a x y : Nat) : Nat := 4096 * tileAt x y + a
  st.foldl (fun m s =>
    let m1 := ps.foldl (fun m p => if p.1.member s.k then
        let k := key s.mem p.2.1 p.2.2
        sput 0 m k (setBit (sget 0 m k) (peBit p.2.1 p.2.2) true) else m) m
    (List.range s.offs.length).foldl (fun m j =>
      let a := s.sel + j
      let m2 := (List.range (16 * rows)).foldl (fun m t => sput 0 m (4096 * t + a) (BitVec.allOnes 4096)) m
      (selvageZeros s j puts).foldl (fun m p =>
        let k := key a p.1 p.2
        sput 0 m k (setBit (sget 0 m k) (peBit p.1 p.2) false)) m2) m1) []

/-- A logical tile lies in the bounding rectangle of a unit (R96, R463). -/
def PUnit.covers (u : PUnit) (t : Nat) : Bool :=
  u.x0 / 64 ≤ t % 16 && t % 16 ≤ (u.x0 + u.w - 1) / 64 && u.y0 / 64 ≤ t / 16 && t / 16 ≤ (u.y0 + u.h - 1) / 64

/-- R463: the placement gates a logical tile. -/
def PlaceParams.gatedTile (q : PlaceParams) (puts : List Put) (t : Nat) : Bool := q.powerOff && !(puts.any (fun u => u.unit.covers t))

/-- What PLACE computes from. -/
structure PlaceInput where
  w0 : Word
  w1 : Word
  rows : Nat
  map : List Byte
  stencilSec : List Byte
  keptSec : List Byte
  deriving DecidableEq, Repr

/-- R469. -/
def PlaceInput.measure (i : PlaceInput) : BitVec 512 :=
  Config.sha512 (i.map ++ i.stencilSec ++ i.keptSec ++ leBytes 3 i.w0.toNat ++ leBytes 3 i.w1.toNat ++ leBytes 1 i.rows)

/-- A placement built from an accepted candidate. -/
def PlaceInput.build (i : PlaceInput) (x : Xform) (st : List Stencil) (puts : List Put) : Placement :=
  let ps := puts.flatMap (·.sites)
  let q := placeParams i.w0 i.w1
  let tables := tablesOf ps
  { w0 := i.w0, w1 := i.w1, rows := i.rows, orient := x.o, sx := x.sx, sy := x.sy, units := puts.map (·.unit),
    dir := (blockTiles ps).getD [], tables := tables,
    stencils := st.map (fun s => { k := s.k, offs := s.moved x, sel := (List.range s.offs.length).map (fun j =>
      4096 * (List.range (16 * i.rows)).countP (fun t => !q.gatedTile puts t) - (selvageZeros s j puts).length) }),
    kept := keptSection i.keptSec, masks := masksOf i.rows st puts,
    gated := bitsOf 256 (q.gatedTile puts),
    used := tables.length, load := ((List.range 256).map (fun t => loadOf (inTile ps t))).foldl max 0 / loadUnit,
    map := i.map, stencilSec := i.stencilSec, keptSec := i.keptSec, measure := i.measure }

/-- The kept planes a KEPT section declares; none without a section. -/
def PlaceInput.keptList (i : PlaceInput) : List Nat := if i.keptSec.isEmpty then [] else keptSection i.keptSec

/-- The input is good (R449, R453). -/
def PlaceInput.ok (i : PlaceInput) : Bool :=
  placeWordsOk i.w0 i.w1 && declarationsOk (channels i.map) ((stencilSection i.stencilSec).getD []) i.keptList

/-- R454, R455, R470: the placement of an input, or the reason, item and first postcode of its failure. -/
def PlaceInput.solve (i : PlaceInput) : Option Placement × Nat × Nat × Nat :=
  let q := placeParams i.w0 i.w1
  let st := (stencilSection i.stencilSec).getD []
  let ss := sitesOf (channels i.map)
  match earlyReason q ss with
  | some r => (none, r)
  | none =>
    let us := unitsOf q.packed ss
    let tried := (xforms q).findSome? (fun x => (candidate q (64 * i.rows) st us x).map (fun p => (x, p)))
    match tried with
    | some (x, p) => (some (i.build x st p), 0, 0, 0)
    | none =>
      match xforms q with
      | x :: _ => (none, lateReason q (64 * i.rows) st us x)
      | [] => (none, 4, 0xFF, 0)

/-! ### Registers and effect -/

/-- SOF_XFORM of a placement (R474). -/
def Placement.xform (p : Placement) : Word :=
  BitVec.ofNat 24 (p.orient * 2 ^ 21 + (p.sx - 1) * 2 ^ 19 + (p.sy - 1) * 2 ^ 17 + fld p.w0 0 1 * 2 ^ 16
    + fld p.w0 1 1 * 2 ^ 15 + fld p.w0 2 1 * 2 ^ 14 + 2 ^ 13)

/-- Logical tiles powered under a placement (R463, R464). -/
def Placement.powered (p : Placement) : List Nat := (List.range (16 * p.rows)).filter (fun t => !p.gated.getLsbD t)

/-- SOF_TILES of a placement. -/
def Placement.tiles (p : Placement) : Word := BitVec.ofNat 24 (p.powered.length * 512 + p.used)

/-- R96: a placement uses logical tile row 15. -/
def Placement.usesRow15 (p : Placement) : Bool := p.units.any (fun u => (List.range 16).any (fun x => u.covers (240 + x)))

/-- SEQ_STCNT_k and SEQ_STEN_k_j (R457): counts, and (dx, dy) as two 12-bit fields. -/
def Placement.stcnt (p : Placement) : Sparse Word := p.stencils.foldl (fun m s => sput 0 m s.k (BitVec.ofNat 24 s.offs.length)) []
def Placement.sten (p : Placement) : Sparse Word :=
  p.stencils.foldl (fun m s => (s.offs.zipIdx).foldl (fun m e =>
    sput 0 m (32 * s.k + e.2) (ofInt 12 e.1.1 ++ ofInt 12 e.1.2 : BitVec 24)) m) []

/-- R471: the descriptor of physical row `p` beside rows failed before: the tiles powered under the placement that change place. -/
def descriptorOf (failed : List Nat) (used : Nat → Bool) (p : Nat) : RepairDescriptor :=
  let next := if failed.contains p then failed else failed ++ [p]
  let mv := (List.range 256).filter (fun l =>
    used l && (physTile failed l).isSome && (physTile next l).isSome && physTile next l != physTile failed l)
  { row := p, assign := (List.range (lrows next)).filterMap (prowOf next), moved := mv.map (fun l => (l, tableAddr l, imageAddr l)) }

/-- R471: the descriptors of all 17 rows, written in both copies. -/
def State.describe (s : State) : State :=
  let ds := if s.sof.effect.isSome then (List.range 17).map (descriptorOf s.cv.failed s.usedTile) else []
  { s with sof := { s.sof with lower := { s.sof.lower with descriptors := ds }, upper := { s.sof.upper with descriptors := ds } } }

/-- The placement report of a placement (R474). -/
def Placement.report (p : Placement) : PlacementReport where
  packed := p.w0.getLsbD 0
  orient := p.orient
  sx := p.sx
  sy := p.sy
  units := p.units
  tiles := (p.used, p.powered.length, (p.tables.map (fun e => e.2.length)).foldl max 0, p.load)
  offsets := p.stencils.flatMap (fun s => (s.offs.zip s.sel).map (fun e => (s.k, e.1, e.1.1.natAbs + e.1.2.natAbs, e.2)))
  measure := p.measure

/-- The items of a report as numbers, in the order of R474's table. -/
def PlacementReport.items (r : PlacementReport) : List Int :=
  [(if r.packed then 1 else 0 : Int), r.orient, r.sx, r.sy]
    ++ r.units.flatMap (fun u => [(u.tag : Int), u.x0, u.y0, u.w, u.h])
    ++ [(r.tiles.1 : Int), r.tiles.2.1, r.tiles.2.2.1, r.tiles.2.2.2]
    ++ r.offsets.flatMap (fun o => [(o.1 : Int), o.2.1.1, o.2.1.2, o.2.2.1, o.2.2.2])
    ++ [(r.measure.toNat : Int)]

/-- The report's bytes: the items, and the first postcode involved in a PLACE that failed since (R470). -/
def State.reportBytes (s : State) : List Byte :=
  match s.sof.report with
  | some r => Config.reportBytes (r.items ++ [(s.sof.failPostcode.toNat : Int)])
  | none => Config.reportBytes [(s.sof.failPostcode.toNat : Int)]

/-- A placement takes effect: directory, tables, stencil table, tile images, descriptors and report (R457, R461, R462). -/
def State.usePlacement (s : State) (p : Placement) : State :=
  let c : SortCopy := { dir := p.dir, tables := p.tables, images := p.masks, descriptors := [] }
  let t : State := { s.objectsWritten (fun a => 0xE0000000 ≤ a && a < 0xE1800000) with
    sof := { s.sof with effect := some p, lower := c, upper := c, report := some p.report, failPostcode := 0, lastW0 := p.w0,
                        lastW1 := p.w1 },
    dn := { s.dn with dir := p.dir, tables := p.tables } }
  (t.mapSeq (fun q => { q with stcnt := p.stcnt, sten := p.sten })).describe

/-- R707: no placement is in effect. -/
def State.withdraw (s : State) : State :=
  ({ s with sof := { s.sof with effect := none, lower := SortCopy.none, upper := SortCopy.none, report := none },
            dn := { s.dn with dir := [], tables := [] } } : State).mapSys (fun y => { y with accepted := none })

/-- SOF_STATUS after an operation. -/
def State.sofDone (s : State) (op : Nat) (st : Status) (reason item : Nat) : State :=
  s.setReg bSOF 0 (BitVec.ofNat 24 (op * 2 ^ 20 + st.code * 2 ^ 12
    + (if st = .noPlacement then reason * 256 + item else 0)))

end Sys2Proof.Machine
end

