-- ==== Sys2Proof/Machine/SysRegs.lean ====
section
/-! DEFINITION. The sequencer's system registers: addresses, loads and stores under R221, R222 and R279; the context save
and load of R244 to R246. -/

namespace Sys2Proof.Machine

/-- SEQ_STATUS. -/
def Seq.status (q : Seq) : Word :=
  BitVec.ofNat 24 (128 * q.rst.toNat + 64 * q.tl.toNat + 32 * q.locked.toNat + 16 * q.ie.toNat + 8 * q.priv.toNat
    + 4 * q.world.toNat)

/-- SEQ_TSTATE. -/
def State.tstate (s : State) : Word :=
  BitVec.ofNat 24 (64 * s.seq.ilvl + 32 * s.arr.susp.isSome.toNat + 2 * s.seq.depth + s.seq.tw.toNat)

/-- SEQ_WSTATE. -/
def Seq.wstate (q : Seq) : Word := BitVec.ofNat 24 (256 * q.job.isSome.toNat + 16 * q.res + q.top.val)

/-- SEQ_ID. -/
def seqId : Word := BitVec.ofNat 24 (0x010000 + 0x100 * Config.revA1.toNat)

/-- SEQ_TALLY as a context of world `w` reads it (R114). -/
def Reductions.tallyFor (r : Reductions) (w : Bool) : Word := if r.countSecure && !w then 0 else r.count.setWidth 24

/-- Addresses of the system register range that hold a register (R221, R279). -/
def sysAssigned (a : Nat) : Bool :=
  let o := a - 0x40000
  o ≤ 0x0C || o == 0x10 || o == 0x11 || o == 0x12 || o == 0x13 || o == 0x20 || o == 0x21 || (0x30 ≤ o && o ≤ 0x3F)
    || (0x100 ≤ o && o ≤ 0x107) || (0x110 ≤ o && o ≤ 0x113) || (0x120 ≤ o && o ≤ 0x123) || (0x800 ≤ o && o ≤ 0x83F)
    || (0x1000 ≤ o && o ≤ 0x17FF)

/-- The count of SEQ_CYCLO and SEQ_CYCHI: array cycles since the sequencer last took its core-reset values (R220, R225). -/
def State.cycles (s : State) : Nat := s.cycle - s.seq.cycBase

/-- The value a load of a system register returns; a write-only register reads 0 (DEDUCED, log entry 18). -/
def State.sysLoad (s : State) (a : Nat) : Word :=
  let q := s.seq
  let o := a - 0x40000
  if o = 0x00 then q.cr.setWidth 24
  else if o = 0x01 then q.fpcsr.setWidth 24
  else if o = 0x02 then q.status
  else if o = 0x03 then s.red.tallyFor q.world
  else if o = 0x04 then q.rptc
  else if o = 0x05 then BitVec.ofNat 24 s.cycles
  else if o = 0x06 then q.cycHi
  else if o = 0x07 then s.postmark.extractLsb' 0 24
  else if o = 0x08 then q.pmHi
  else if o = 0x09 then BitVec.ofNat 24 q.bphase
  else if o = 0x0A then q.rstart
  else if o = 0x0B then seqId
  else if o = 0x0C then q.frkst
  else if o = 0x10 then q.phwin
  else if o = 0x11 then q.drwin
  else if o = 0x12 then q.faddr
  else if o = 0x13 then q.fstat
  else if o = 0x20 then q.isecBase.setWidth 24
  else if o = 0x21 then q.dsecBase.setWidth 24
  else if 0x30 ≤ o && o ≤ 0x3F then sget 0 q.gates (o - 0x30)
  else if o = 0x100 then q.wstate
  else if o = 0x101 then q.wctl
  else if o = 0x102 then q.spillBase.setWidth 24
  else if o = 0x103 then q.spillLimit.setWidth 24
  else if o = 0x104 then q.spillPtr.setWidth 24
  else if o = 0x105 then dirtyReg q
  else if o = 0x110 then s.tstate
  else if o = 0x111 then q.tvbase.setWidth 24
  else if o = 0x112 then (if q.world then q.tvbaseS.setWidth 24 else 0)
  else if o = 0x113 then q.hcause
  else if o = 0x120 then q.ipend.setWidth 24
  else if o = 0x121 then q.imask.setWidth 24
  else if o = 0x123 then q.isec.setWidth 24
  else if 0x800 ≤ o && o ≤ 0x83F then sget 0 q.stcnt (o - 0x800)
  else if 0x1000 ≤ o && o ≤ 0x17FF then sget 0 q.sten (o - 0x1000)
  else 0

/-- R225: what a load of SEQ_CYCLO or SEQ_PMLO latches. -/
def State.latchHigh (s : State) (a : Nat) : State :=
  if a = 0x40005 then s.mapSeq (fun q => { q with cycHi := BitVec.ofNat 24 (s.cycles / 2 ^ 24) })
  else if a = 0x40007 then s.mapSeq (fun q => { q with pmHi := s.postmark.extractLsb' 24 24 })
  else s

/-- R113: every capture in flight lands in this cycle or has landed. -/
def State.tallyReady (s : State) : Bool :=
  s.red.tally.all (fun e => e.1 + 64 ≤ s.cycle) && s.arr.pipe.all (fun p => !(nVALID p.bits && p.bits.getLsbD 71))

/-- R112, R113: a load of SEQ_TALLY waits for the last capture in flight and reads in the cycle in which it lands. -/
def State.untilTally (s : State) : State := (s.stallUntil State.tallyReady 128).land

/-- The lines a context may change in SEQ_IPEND and SEQ_IMASK (R279). -/
def Seq.lines (q : Seq) : BitVec 16 := if q.world then BitVec.allOnes 16 else ~~~q.isec

/-- R222, R264: causes raised by a store to a system register. -/
def Seq.sysStoreCauses (q : Seq) (a : Nat) : List Nat :=
  if a = 0x40004 then [0x0E]
  else if (a = 0x40106 || a = 0x40107 || a = 0x40122) && !q.priv then [0x02]
  else []

/-- A pointer write, held back while a record moves (R243). -/
def Seq.pointerWrite (q : Seq) (k : Fin 3) (v : Word) : Seq :=
  if !q.priv then q
  else
    let q1 := { q with ptrWrites := q.ptrWrites ++ [(k, v.extractLsb' 0 19)] }
    if q.job.isSome then q1 else q1.flushPtrs

/-- SEQ_TSTATE.TW (R264). -/
def Seq.writeTw (q : Seq) (v : Word) : Seq := if q.priv && q.depth != 0 then { q with tw := v.getLsbD 0 } else q

/-- SEQ_ISET: lines 12 to 15, whatever world they have (R279). -/
def Seq.iset (q : Seq) (v : Word) : Seq := { q with ipend := q.ipend ||| (v.extractLsb' 0 16 &&& 0xF000#16) }

/-- Stores with no cause of their own, other than SEQ_CTXSAVE and SEQ_CTXLOAD (R221, R222, R279). -/
def Seq.sysStore (q : Seq) (a : Nat) (v : Word) : Seq :=
  let o := a - 0x40000
  if o = 0x00 then { q with cr := v.extractLsb' 0 5 }
  else if o = 0x01 then { q with fpcsr := (q.fpcsr &&& BitVec.ofNat 22 0x3E0000) ||| (v.extractLsb' 0 17).setWidth 22 }
  else if o = 0x02 then
    if q.priv then { q with rst := q.rst && !v.getLsbD 7, tl := q.tl && !v.getLsbD 6, ie := v.getLsbD 4 } else q
  else if !q.priv then q
  else if o = 0x10 then { q with phwin := v &&& 0xFF#24 }
  else if o = 0x11 then { q with drwin := v &&& 0x1FF#24 }
  else if o = 0x101 then { q with wctl := v &&& 0xFF#24 }
  else if o = 0x102 then q.pointerWrite 0 v
  else if o = 0x103 then q.pointerWrite 1 v
  else if o = 0x104 then q.pointerWrite 2 v
  else if o = 0x110 then q.writeTw v
  else if o = 0x111 then { q with tvbase := v.extractLsb' 0 10 }
  else if o = 0x120 then { q with ipend := q.ipend &&& ~~~(v.extractLsb' 0 16 &&& q.lines) }
  else if o = 0x121 then { q with imask := (q.imask &&& ~~~q.lines) ||| (v.extractLsb' 0 16 &&& q.lines) }
  else if o = 0x122 then q.iset v
  else q

/-! ### Context save and load (R244 to R246) -/

/-- Physical groups of the current frame, in mask order. -/
def Seq.frameGroup (q : Seq) (j : Nat) : Nat :=
  if j < 4 then (if q.tw then trapGroup j else winGroup q.top.val j) else winGroup ((q.top.val + 1) % 12) (j - 4)

/-- First physical register of a group. -/
def groupBase (g : Nat) : Nat := 4 * g

/-- R246: the header mask: globals, frame, accumulators. -/
def Seq.ctxMask (q : Seq) : Word := dirtyReg q

/-- The eight D groups of a context record, in mask order: globals, then the frame. -/
def Seq.ctxGroups (q : Seq) : List Nat := [0, 1] ++ (List.range 6).map q.frameGroup

/-- The context record. -/
def Seq.context (q : Seq) : List Word :=
  [q.ctxMask, q.spillPtr.setWidth 24]
    ++ (q.ctxGroups.filter (fun g => q.dDirty.getLsbD g)).flatMap (fun g =>
      (List.range 4).map (fun i => sget 0 q.dRegs (groupBase g + i)))
    ++ (ones q.acDirty).flatMap (fun n => (List.range 3).map (fun i => (sget 0 q.acRegs n).extractLsb' (24 * i) 24))

/-- R244: spills every frame but the current one: the state after, the trap that ends it (0x03 where the stack fills, 0x02 where a
secure frame may not be spilled: DESIGN CHOICE, log entry 96), and the words moved. -/
def State.spillAll (s : State) (n : Nat) : State × Option Nat × Nat :=
  match n with
  | 0 => (s, none, 0)
  | k + 1 =>
    if s.seq.res ≤ 1 then (s, none, 0)
    else if s.seq.spillBarred then (s, some 0x02, 0)
    else if s.seq.stackFull then (s, some 0x03, 0)
    else
      let (t, c, m) := s.spillFrame.spillAll k
      (t, c, s.seq.recLen + m)

/-- R178, R212: causes of a context record of `n` words at `a`, for a save or a load. The record's addresses wrap within
data memory (DESIGN CHOICE, log entry 19). -/
def State.ctxCauses (s : State) (a n : Nat) (load : Bool) : List Nat :=
  let here := (List.range n).map (fun i => (a + i) % 262144)
  (if !s.seq.world && here.any (fun x => s.seq.dsecBase.toNat ≤ x) then [0x02] else [])
    ++ (if load && here.any (fun x => s.smem.dmemBad.contains x) then [0x0C] else [])

/-- R245: what a context record sets. -/
def Seq.loadContext (q : Seq) (w : Nat → Word) : Seq :=
  let h := w 0
  let gs := (q.ctxGroups.zipIdx.filter (fun e => h.getLsbD e.2)).map Prod.fst
  let acs := ones (h.extractLsb' 8 8)
  let regs := (gs.zipIdx).foldl (fun m (e : Nat × Nat) => (List.range 4).foldl (fun m i =>
    sput 0 m (groupBase e.1 + i) (w (2 + 4 * e.2 + i))) m) q.dRegs
  let dirty := (q.ctxGroups.zipIdx).foldl (fun d (e : Nat × Nat) => setBit d e.1 (h.getLsbD e.2)) q.dDirty
  let b := 2 + 4 * gs.length
  let ac := (acs.zipIdx).foldl (fun m (e : Nat × Nat) =>
    sput 0 m e.1 (w (b + 3 * e.2 + 2) ++ w (b + 3 * e.2 + 1) ++ w (b + 3 * e.2))) q.acRegs
  { q with dRegs := regs, dDirty := dirty, acRegs := ac, acDirty := h.extractLsb' 8 8,
           spillPtr := (w 1).extractLsb' 0 19, res := 1, frameWorlds := [q.frameWorlds.headD q.world] }

/-- Words of the record whose header is `h`. -/
def ctxLength (h : Word) : Nat := 2 + 4 * popcount (h.extractLsb' 0 8) + 3 * popcount (h.extractLsb' 8 8)

/-- R243, R244, R245: context operations begin once the record under way has moved; a save in a locked section sets TIMING_LOST
(R246). -/
def State.ctxBegin (s : State) (save : Bool) : State :=
  let t := if s.seq.locked && save then s.mapSeq (fun q => { q with tl := true }) else s
  if t.seq.job.isSome then t.tickUntil (fun s => s.seq.job.isNone) 64 else t

/-- R244: the context is saved at `a`: the trap raised, the data-memory words moved, and the state after. A violation is found before
anything is written (R254). -/
def State.ctxSave (s : State) (a : Nat) : Option Nat × Nat × State :=
  match lowestCause (s.ctxCauses a s.seq.context.length false) with
  | some c => (some c, 0, s)
  | none =>
    match s.spillAll 11 with
    | (t, some c, m) => (some c, m, if c = 0x02 then s else t)
    | (t, none, m) =>
      let r := t.seq.context
      (none, m + r.length, { t with smem := t.smem.puts a r })

/-- R245: the context at `a` is loaded: the trap raised, the data-memory words moved, and the state after. -/
def State.ctxLoad (s : State) (a : Nat) : Option Nat × Nat × State :=
  let w (i : Nat) : Word := s.smem.word (a + i)
  let n := ctxLength (w 0)
  match lowestCause (s.ctxCauses a n true ++ (if fld (w 0) 16 8 != 0 then [0x0D] else [])) with
  | some c =>
    (some c, 0, if c = 0x0D then s.mapSeq (fun q => { q with faddr := BitVec.ofNat 24 0x40107, fstat := BitVec.ofNat 24 0x10A })
      else s)
  | none => (none, n, s.mapSeq (fun q => q.loadContext w))

/-- Context operations in turn: the trap that ends them, the data-memory words moved, and the state after. -/
def State.ctxRun (s : State) (ops : List (Bool × Nat)) : Option Nat × Nat × State :=
  match ops with
  | [] => (none, 0, s)
  | (load, a) :: rest =>
    match if load then s.ctxLoad a else s.ctxSave a with
    | (some c, n, t) => (some c, n, t)
    | (none, n, t) => let (c, m, u) := t.ctxRun rest; (c, n + m, u)

/-- R244, R245: a store to SEQ_CTXSAVE or SEQ_CTXLOAD (`load`), or to both in turn (`ops`), with the storing instruction's own
register update. It holds scalar issue for one cycle and one for each data-memory word it moves (DESIGN CHOICE, log entry 96),
in which the spiller does not move (R239). `from_` is the state before the instruction's first word: a trap leaves nothing of it
but the frames spilled before trap 0x03 and what SEQ_FADDR and SEQ_FSTAT record (R254). -/
def State.ctxStore (s from_ : State) (ops : List (Bool × Nat)) (upd : Seq → Seq) : State :=
  let save := ops.any (fun e => !e.1)
  match (s.ctxBegin save).ctxRun ops with
  | (none, n, u) => ((u.mapSeq upd).retire (1 + n)).mapSeq (fun q => { q with dataAt := u.cycle + 1 + n })
  | (some c, _, u) =>
    (if c = 0x03 then u else (from_.ctxBegin save).mapSeq (fun q => { q with faddr := u.seq.faddr, fstat := u.seq.fstat })).trap c

end Sys2Proof.Machine
end

