-- ==== Sys2Proof/Machine/MemOps.lean ====
section
/-! DEFINITION. Accesses to DRAM by an agent (R573, R579, R649), the sequencer's windows (R29, R177 to R181), and the load
and store of one word of the data address space (R175). -/

namespace Sys2Proof.Machine

/-- What bars an agent of world `w` from a span of DRAM: out of range (R571), firmware area (R573), a lost stack (R579),
a secure region (R649) or one awaiting a wipe (R660), a span being cleared (R645). -/
def State.dramBar (s : State) (w : Bool) (a n : Nat) : Option Status :=
  if 2 ^ 34 < a + n then some .badParameter
  else if inFirmware a then some .denied
  else if s.dramPending a n then some .denied
  else if s.lost (stackOf a) then some .routeFault
  else if !w && (List.range n).any (fun i => s.dramWorld (a + i)) then some .denied
  else if s.dramBusy a n then some .busy
  else none

/-- The same for an agent that reaches the firmware area where `firm` (R573). -/
def State.dramBarFor (s : State) (firm w : Bool) (a n : Nat) : Option Status :=
  if firm && a + n ≤ 2 ^ 34 && inFirmware a then (if s.lost (stackOf a) then some .routeFault else none) else s.dramBar w a n

/-- A DRAM read of `n` bytes. -/
def State.dramGet (s : State) (firm w : Bool) (a n : Nat) : Status × List Byte × State :=
  match s.dramBarFor firm w a n with
  | some e => (e, [], s)
  | none => s.dramRead a n

/-- A DRAM write. -/
def State.dramPut (s : State) (firm w : Bool) (a : Nat) (b : List Byte) : Status × State :=
  match s.dramBarFor firm w a b.length with
  | some e => (e, s)
  | none => (.ok, s.dwrite a b)

/-! ### The data address space (R175) -/

/-- The parts of the data address space. -/
inductive Place where
  | data | system | bank | dram | reserved
  deriving DecidableEq, Repr

def placeOf (a : Nat) : Place :=
  if a < 0x40000 then .data
  else if a < 0x41800 then (if sysAssigned a then .system else .reserved)
  else if a < 0x100000 then .reserved
  else if a < 0x140000 then .bank
  else if a < 0x800000 then .reserved
  else .dram

/-- Whether a word is reached through a window. -/
def throughWindow (a : Nat) : Bool := placeOf a == .bank || placeOf a == .dram

/-- Causes of a load of one word, apart from a window's response (R176, R178, R212). -/
def State.loadCauses (s : State) (a : Nat) : List Nat :=
  match placeOf a with
  | .data =>
    (if !s.seq.world && s.seq.dsecBase.toNat ≤ a then [0x02] else []) ++ (if s.smem.dmemBad.contains a then [0x0C] else [])
  | .reserved => [0x0D]
  | _ => []

/-- Causes of a store of one word (R176, R211, R212, R222). -/
def State.storeCauses (s : State) (a : Nat) : List Nat :=
  match placeOf a with
  | .data => if !s.seq.world && s.seq.dsecBase.toNat ≤ a then [0x02] else []
  | .system => s.seq.sysStoreCauses a
  | .reserved => [0x0D]
  | _ => []

/-- R176, R177: SEQ_FADDR and SEQ_FSTAT of an access that raises trap 0x0D. -/
def State.recordAccess (s : State) (a : Nat) (wr : Bool) (st : Status) : State :=
  s.mapSeq (fun q => { q with faddr := BitVec.ofNat 24 a, fstat := BitVec.ofNat 24 (256 * wr.toNat + st.code) })

/-- R177: an access that fails with a status. -/
def State.accessTrap (s : State) (a : Nat) (wr : Bool) (st : Status) : State := (s.recordAccess a wr st).trap 0x0D

/-- The NI that an address in a window leads to (R543, R571, R581). -/
def Seq.windowNi (q : Seq) (a : Nat) : Nat :=
  match placeOf a with
  | .bank => 32 + fld q.phwin 0 6 / 4
  | _ => let d := q.drwin.toNat * 2 ^ 25 + 4 * (a - 0x800000); 16 + 4 * stackOf d + d / 512 % 4

/-- A service core's context (R585), the NI of a context, and the world of its accesses (R643). -/
def Seq.isCore (q : Seq) : Bool := q.unit != ownSeq
def Seq.ni (q : Seq) : Nat := if q.isCore then 98 + q.unit else 106
def Seq.ioWorld (q : Seq) : Bool := q.world || q.isCore

/-- The transfer of an access through a window: CTRL traffic of one container (R551). -/
def Seq.windowTransfer (q : Seq) (a : Nat) (wr : Bool) : Transfer where
  src := q.ni
  dst := q.windowNi a
  vc := 0
  wr := wr
  world := q.ioWorld
  view := if placeOf a = .bank then fld q.phwin 6 2 else 0
  addr := if placeOf a = .bank then fld q.phwin 0 2 * 2 ^ 20 + 4 * (a - 0x100000) else q.drwin.toNat * 2 ^ 25 + 4 * (a - 0x800000)
  n := 4

/-- R177, R549, R562: an access through a window that the network does not deliver: the status it comes back with, and the state after
(DEDUCED, log entry 109). -/
def State.windowLost (s : State) (x : Transfer) : Option (Status × State) :=
  if !s.routed then some (.routeFault, s)
  else match s.bounced x.src x.dst with
    | some st => some (st, (s.noteReceipt x.src x.dst st).seenBack x st)
    | none => none

/-- R179 to R181: a load of one word through a window, once the network has delivered it. -/
def State.windowRead (s : State) (a : Nat) : Status × Word × State :=
  let q := s.seq
  match placeOf a with
  | .bank =>
    let (st, v, t) := s.bankAccess q.unit q.ioWorld false (fld q.phwin 6 2) (fld q.phwin 0 6) (a - 0x100000) 0
    (st, v.extractLsb' 0 24, t)
  | _ =>
    let (st, b, t) := s.dramGet q.isCore q.ioWorld (q.drwin.toNat * 2 ^ 25 + 4 * (a - 0x800000)) 4
    (st, BitVec.ofNat 24 (leNat b), t)

/-- R179 to R181: a store of one word through a window, once the network has delivered it. -/
def State.windowWrite (s : State) (a : Nat) (v : Word) : Status × State :=
  let q := s.seq
  match placeOf a with
  | .bank =>
    let (st, _, t) := s.bankAccess q.unit q.ioWorld true (fld q.phwin 6 2) (fld q.phwin 0 6) (a - 0x100000) (v.setWidth 32)
    (st, t)
  | _ => s.dramPut q.isCore q.ioWorld (q.drwin.toNat * 2 ^ 25 + 4 * (a - 0x800000)) (leBytes 4 v.toNat)

/-- R177: a load of one word through a window. -/
def State.windowLoad (s : State) (a : Nat) : Status × Word × State :=
  let x := s.seq.windowTransfer a false
  match s.windowLost x with
  | some (st, t) => (st, 0, t)
  | none => let (st, v, t) := s.windowRead a; (st, v, t.seen x st)

/-- R177: a store of one word through a window. -/
def State.windowStore (s : State) (a : Nat) (v : Word) : Status × State :=
  let x := s.seq.windowTransfer a true
  match s.windowLost x with
  | some e => e
  | none => let (st, t) := s.windowWrite a v; (st, t.seen x st)

/-- A load of one word, once its causes are checked. -/
def State.loadWord (s : State) (a : Nat) : Status × Word × State :=
  match placeOf a with
  | .data => (.ok, s.smem.word a, s)
  | .system => (.ok, s.sysLoad a, s.latchHigh a)
  | .reserved => (.badParameter, 0, s)
  | _ => s.windowLoad a

/-- A store of one word, once its causes are checked; SEQ_CTXSAVE and SEQ_CTXLOAD are the caller's. -/
def State.storeWord (s : State) (a : Nat) (v : Word) : Status × State :=
  match placeOf a with
  | .data => (.ok, { s with smem := s.smem.put a v })
  | .system => (.ok, s.mapSeq (fun q => q.sysStore a v))
  | .reserved => (.badParameter, s)
  | _ => s.windowStore a v

/-- Loads words at rising addresses, modulo 2^24; the first error ends them. -/
def State.loadWords (s : State) (a n : Nat) : Status × Nat × List Word × State :=
  match n with
  | 0 => (.ok, 0, [], s)
  | k + 1 =>
    match s.loadWord a with
    | (.ok, v, t) =>
      let (st, e, vs, u) := t.loadWords ((a + 1) % 2 ^ 24) k
      (st, e, v :: vs, u)
    | (st, _, t) => (st, a, [], t)

/-- Stores words at rising addresses, modulo 2^24; the first error ends them. -/
def State.storeWords (s : State) (a : Nat) (ws : List Word) : Status × Nat × State :=
  match ws with
  | [] => (.ok, 0, s)
  | w :: r =>
    match s.storeWord a w with
    | (.ok, t) => t.storeWords ((a + 1) % 2 ^ 24) r
    | (st, t) => (st, a, t)

end Sys2Proof.Machine
end

