-- ==== Sys2Proof/Machine/Replies.lean ====
section
/-! DEFINITION. The Onfel protocol (16): requests and their checks, replies, parts, sessions, claims, and the DRAM a command
may name. -/

namespace Sys2Proof

/-! ### Requests (R623, R624) -/

def Request.op (q : Request) : Nat := Machine.fld q.w0 16 8
def Request.ver (q : Request) : Nat := Machine.fld q.w0 12 4
def Request.len (q : Request) : Nat := Machine.fld q.w0 0 12
def Request.sess (q : Request) : Nat := Machine.fld q.w2 12 12
def Request.block (q : Request) : Nat := Machine.fld q.w2 0 12
/-- The payload containers that the header counts. -/
def Request.conts (q : Request) : List Cont := q.payload.take q.len
/-- The payload words. -/
def Request.words (q : Request) : List Word := q.conts.map (fun c => c.setWidth 24)
def Request.word (q : Request) (i : Nat) : Word := (q.words[i]?).getD 0
def Request.arg (q : Request) (i : Nat) : Nat := (q.word i).toNat
/-- A 34-bit address in words `i` and `i + 1`. -/
def Request.addr (q : Request) (i : Nat) : Nat := q.arg i + q.arg (i + 1) * 2 ^ 24
/-- The words hold a 34-bit address, and a 32-bit count. -/
def Request.addrOk (q : Request) (i : Nat) : Bool := q.arg (i + 1) < 2 ^ 10
def Request.countOk (q : Request) (i : Nat) : Bool := q.arg (i + 1) < 2 ^ 8

end Sys2Proof

namespace Sys2Proof.Machine

/-- The port whose record holds a source's jobs and fallback replies. -/
def Via.port (v : Via) : Port := match v with | .ring p => p | .spi => .a | .uart => .b

/-! ### Lifecycle, versions and sessions (R628, R629, R654, R656) -/

/-- The lifecycle code: the last entry burnt. -/
def Otp.lifecycle (o : Otp) : Nat := (o.log.getLast?).getD 0

/-- The agreed protocol version. -/
def State.agreed (s : State) (v : Via) : Nat :=
  match v with
  | .ring p => s.rfld (mbx p) 0 0 4
  | .spi => s.rfld bFBK 0 0 4
  | .uart => s.rfld bFBK 1 0 4

def State.setAgreed (s : State) (v : Via) (n : Nat) : State :=
  match v with
  | .ring p => s.setRfld (mbx p) 0 0 4 n
  | .spi => s.setRfld bFBK 0 0 4 n
  | .uart => s.setRfld bFBK 1 0 4 n

/-- Session 0 is always open; others are open on the port that holds them, at version 3. -/
def State.sessionOpen (s : State) (v : Via) (n : Nat) : Bool :=
  n == 0 || (match v with | .ring p => 3 ≤ s.agreed v && (s.port p).sessions.any (fun e => e.1 == n) | _ => false)

/-- A session's world (R629). -/
def State.sessionSecure (s : State) (v : Via) (n : Nat) : Bool :=
  match v with
  | .ring p => (s.port p).sessions.contains (n, true)
  | _ => false

/-- A secure session is open on either port. -/
def State.anySecure (s : State) : Bool := s.sys.pa.sessions.any (·.2) || s.sys.pb.sessions.any (·.2)

/-- HOST_MB_CTL.SESS follows the sessions open. -/
def State.setSessions (s : State) (p : Port) (l : List (Nat × Bool)) : State :=
  (s.mapPort p (fun h => { h with sessions := l })).setRfld (mbx p) 0 4 5 l.length

/-! ### Claims (R639, R640) -/

/-- The holder of a resource. -/
def State.holder (s : State) (cls idx : Nat) : Option Claim := s.sys.claims.find? (fun c => c.cls == cls && c.idx == idx)

def Claim.isOf (c : Claim) (v : Via) (n : Nat) : Bool :=
  match c.port with
  | some p => v == .ring p && c.sess == n
  | none => false

/-- The detail that names a holder. -/
def Claim.detail (c : Claim) : Nat := (match c.port with | some p => portIdx p | none => 2) * 16384 + c.sess

/-- The session holds the resource. -/
def State.holds (s : State) (v : Via) (n cls idx : Nat) : Bool :=
  match s.holder cls idx with | some c => c.isOf v n | none => false

/-- Another session holds the resource: the detail that names it. -/
def State.heldBy (s : State) (v : Via) (n cls idx : Nat) : Option Nat :=
  match s.holder cls idx with | some c => if c.isOf v n then none else some c.detail | none => none

/-- The status of a claim that an action needs: OK, RESOURCE_CLAIMED or DENIED (R503, R597). -/
def State.needs (s : State) (v : Via) (n cls idx : Nat) : Status :=
  match s.holder cls idx with | some c => if c.isOf v n then .ok else .resourceClaimed | none => .denied

def State.addClaim (s : State) (v : Via) (n cls idx : Nat) : State :=
  match v with
  | .ring p => if s.holds v n cls idx then s else s.mapSys (fun y => { y with claims := y.claims ++ [⟨cls, idx, some p, n⟩] })
  | _ => s

def State.dropClaim (s : State) (cls idx : Nat) : State :=
  s.mapSys (fun y => { y with claims := y.claims.filter (fun c => !(c.cls == cls && c.idx == idx)) })

/-! ### DRAM that a command names (R632) -/

/-- Every MiB that a span touches lies in a region that the session has claimed. -/
def State.dramHeld (s : State) (v : Via) (sess a n : Nat) : Bool :=
  (List.range ((a + n - 1) / 2 ^ 20 + 1 - a / 2 ^ 20)).all (fun i =>
    let m := (a / 2 ^ 20 + i) * 2 ^ 20
    (List.range 16).any (fun k => s.holds v sess 7 k && (match s.region k with
      | some (b, z, _) => b ≤ m && m + 2 ^ 20 ≤ b + z
      | none => false)))

/-- The status of a span for a command. -/
def State.dramFor (s : State) (v : Via) (sess a n : Nat) : Status :=
  if n = 0 then .ok
  else if 2 ^ 34 < a + n || !s.dramHeld v sess a n then .denied
  else if s.dramPending a n then .denied
  else if s.lost (stackOf a) || s.lost (stackOf (a + n - 1)) then .routeFault
  else match s.dramBar (s.sessionSecure v sess) a n with
    | some e => e
    | none => .ok

/-! ### Replies (R620, R623, R626) -/

/-- The containers of a reply. -/
def replyPacket (w0 w1 : Word) (st : Status) (detail : Nat) (pl : List Word) : List Word :=
  [setFld w0 0 12 pl.length, w1, BitVec.ofNat 24 (st.code * 65536 + detail % 65536), crc24 pl] ++ pl

/-- The reply ring takes a packet now. -/
def State.replyFits (s : State) (p : Port) (ws : List Word) : Option (Nat × Bool) :=
  s.ringRoom p false ((ws.length + 3) / 4 * 4)

/-- R620: a reply is written, or held in order while the ring lacks room. -/
def State.sendReply (s : State) (p : Port) (ws : List Word) : State :=
  match (s.port p).replies, s.replyFits p ws with
  | [], some (at_, pad) => s.ringPut p false at_ pad ws
  | _, _ => s.mapPort p (fun h => { h with replies := h.replies ++ [ws] })

/-- A reply to a request with header words `w0` and `w1`; QUIET suppresses an OK. -/
def State.reply (s : State) (v : Via) (w0 w1 : Word) (st : Status) (detail : Nat) (pl : List Word) : State :=
  if st = .ok && w1.getLsbD 0 then s
  else match v with
    | .ring p => s.sendReply p (replyPacket w0 w1 st detail pl)
    | v => s.mapPort v.port (fun h => { h with fallback := h.fallback ++ [replyPacket w0 w1 st detail pl] })

def State.answerTo (s : State) (v : Via) (q : Request) (st : Status) (detail : Nat) (pl : List Word) : State :=
  s.reply v (q.w0.setWidth 24) (q.w1.setWidth 24) st detail pl

/-- A command whose reply is due later. -/
def jobOf (q : Request) (v : Via) (args : List Nat) : Job :=
  { op := q.op, via := v, w0 := q.w0.setWidth 24, w1 := q.w1.setWidth 24, sess := q.sess, block := q.block, args := args,
    mute := false }

def State.begin (s : State) (j : Job) : State := s.mapPort j.via.port (fun h => { h with jobs := h.jobs ++ [j] })

/-- The reply of a command under way; none where a reset has ended or muted it (R606, R672). -/
def State.finish (s : State) (j : Job) (st : Status) (detail : Nat) (pl : List Word) : State :=
  let gone (j : Job) : State := s.mapPort j.via.port (fun h => { h with jobs := h.jobs.erase j })
  if (s.port j.via.port).jobs.contains j then
    if j.mute then gone j else (gone j).reply j.via j.w0 j.w1 st detail pl
  else gone { j with mute := true }

/-- The reply of a command that may be under way. -/
def State.finish? (s : State) (j : Option Job) (st : Status) (detail : Nat) (pl : List Word) : State :=
  match j with
  | some j => s.finish j st detail pl
  | none => s

/-! ### Parts (R641) -/

/-- The status with a code. -/
def Status.ofCode (n : Nat) : Status :=
  (([.ok, .partly, .busy, .domainAsleep, .routeFault, .denied, .badSignature, .versionMismatch, .resourceClaimed, .timeout,
     .badParameter, .uncorrectable, .leaseExpired, .wrongMode, .unknownOpcode, .rolledBack, .overBudget, .noPlacement,
     .lifecycle, .queueFull, .badFrame, .multidrive, .integrity] : List Status).find? (fun t => t.code == n)).getD .ok

/-- Status and detail of a split request with parts (index, status) in ascending order. -/
def partsStatus (r : List (Nat × Status)) : Status × Nat :=
  match r.find? (fun e => e.2 != .ok) with
  | none => (.ok, 0)
  | some e => if r.any (fun e => e.2 == .ok) then (.partly, e.2.code * 256) else (e.2, 0)

/-- The part bitmap of R641 and R635. -/
def partBitmap (r : List (Nat × Status)) : List Word :=
  (List.range 11).map (fun k => bitsOf 24 (fun b => r.any (fun e => e.1 == 24 * k + b && e.2 == .ok)))

/-- The payload of a split request's reply, under the version of its request header. -/
def partsPayload (w0 : Word) (r : List (Nat × Status)) (pl : List Word) : List Word :=
  if 2 ≤ fld w0 12 4 then partBitmap r ++ pl else pl

/-- The commands whose R632 entry lists parts. -/
def splitOp (o : Nat) : Bool := [0x14, 0x63, 0x71, 0x7E, 0x7F].contains o

/-- A request refused as a whole: no part of a split one succeeds (R641). -/
def State.refuse (s : State) (v : Via) (q : Request) (st : Status) (detail : Nat) : State :=
  s.answerTo v q st detail (if splitOp q.op then partsPayload (q.w0.setWidth 24) [] [] else [])

/-! ### The checks of R625 -/

/-- R627: whether R632 lists an opcode. -/
def opListed (o : Nat) : Bool :=
  [0x01, 0x02, 0x03, 0x10, 0x11, 0x12, 0x13, 0x14, 0x20, 0x21, 0x30, 0x31, 0x32, 0x40, 0x41, 0x50, 0x51, 0x60, 0x61, 0x62,
   0x63, 0x64, 0x70, 0x71, 0x72, 0x7E, 0x7F].contains o

/-- The commands of R631. -/
def exclusive (o : Nat) : Bool := [0x11, 0x12, 0x03, 0x30, 0x31, 0x63, 0x64, 0x70, 0x71].contains o

/-- R631: another such command is in progress: one whose reply is due, or a mode transition (a SET_MODE 0 has replied before it, R691). -/
def State.held631 (s : State) (o : Nat) : Bool :=
  exclusive o && (s.sys.transition.isSome || (s.sys.pa.jobs ++ s.sys.pb.jobs).any (fun j =>
    exclusive j.op && !(o == 0x31 && j.op == 0x11 && s.sys.mode == .run)))

/-- What a command demands: its version, whether its fields are good, what its world and claims give, whether the mode permits
it, and whether BLANK, PROVISIONED and RETURN refuse it (R656). -/
structure Demand where
  ver : Nat
  fields : Bool
  permit : Status × Nat
  mode : Bool
  early : Bool
  deriving DecidableEq, Repr

/-- R656: the lifecycle state refuses a command. -/
def State.lifeBars (s : State) (op : Nat) (early : Bool) : Bool :=
  let lc := s.otp.lifecycle
  (lc == 4 && !([0x01, 0x02, 0x61, 0x7E].contains op)) || (early && (lc == 0 || lc == 1 || lc == 3))

/-- Steps 1 to 5 of R625: the first failure. On a fallback port every opcode but its five answers DENIED, listed or not (R441). -/
def State.check5 (s : State) (v : Via) (q : Request) (ver : Nat) : Status :=
  if ([q.w0, q.w1, q.w2, q.w3] ++ q.conts).any (fun c => fld c 24 8 != 0) then .badParameter
  else if crc24 q.words ≠ q.w3.setWidth 24 then .badFrame
  else if v ≠ .ring v.port && !([0x01, 0x02, 0x7E, 0x70, 0x71].contains q.op) then .denied
  else if q.op ≠ 1 && (s.agreed v < q.ver || (opListed q.op && q.ver < ver)) then .versionMismatch
  else if !opListed q.op then .unknownOpcode
  else if !s.sessionOpen v q.sess then .denied
  else .ok

/-- The checks of R625 and then R656: the first failure with its detail; OK when none fails. -/
def State.check (s : State) (v : Via) (q : Request) (g : Demand) : Status × Nat :=
  let st := s.check5 v q g.ver
  if st ≠ .ok then (st, 0)
  else if fld q.w1 1 7 ≠ 0 || !(q.block == 0 || blockListed q.block)
      || (q.block != 0 && !([0x70, 0x7E, 0x7F].contains q.op)) || !g.fields then (.badParameter, 0)
  else if g.permit.1 ≠ .ok then g.permit
  else if !g.mode then (.wrongMode, 0)
  else if s.held631 q.op then (.busy, 0)
  else if s.lifeBars q.op g.early then (.lifecycle, 0)
  else (.ok, 0)

/-! ### The interpreter takes a request (R618 to R620) -/

/-- The command interpreter takes a port's next request: its firmware runs, the module is awake, no reply of the port is held
and fewer than 64 of its commands are in progress. -/
def State.interprets (s : State) (v : Via) : Bool :=
  (s.sys.boot == .done || (s.sys.boot == .failed && v != .ring v.port)) && !s.sys.shutdown && s.functionUp 0
    && s.sys.mode != .sleep && (s.port v.port).jobs.length < 64
    && (match v with | .ring p => (s.port p).link && (s.port p).replies.isEmpty | _ => true)

/-- R617: where the next packet of the request ring starts: container 0 where a pad packet fills the end of the ring. -/
def State.requestHead (s : State) (p : Port) : Nat :=
  let head := (s.reg (mbx p) 0x004).toNat
  let tail := (s.reg (mbx p) 0x008).toNat
  let w := s.cont (portIdx p) head
  if tail < head && fld w 16 8 = 0 && fld w 0 12 + 4 + head = 131072 then 0 else head

/-- R619: a command of the same source with the same target block is under way, and the next one waits for its end. HELLO does not wait
(R628), nor a RUN_STOP beside a COMMIT in RUN (R631; DEDUCED, log entry 114). -/
def State.follows (s : State) (v : Via) (q : Request) : Bool :=
  (s.port v.port).jobs.any (fun j => j.via == v && j.block == q.block
    && !(q.op == 0x01 || (q.op == 0x31 && j.op == 0x11 && s.sys.mode == .run)))

/-- HOST_MB_REQHEAD moves past a packet of the ring. A packet longer than what the ring holds breaks R618: everything up to the
tail goes, RINGERR is set and no reply follows. -/
def State.takePacket (s : State) (p : Port) (q : Request) : Bool × State :=
  let head := s.requestHead p
  let tail := (s.reg (mbx p) 0x008).toNat
  let n := (4 + q.len + 3) / 4 * 4
  let have_ := (tail + 131072 - head) % 131072
  let broken : State := (s.setReg (mbx p) 0x004 (BitVec.ofNat 24 tail)).cause p 2
  if q.payload.length < q.len then (false, broken)
  else if s.follows (.ring p) q then (false, s)
  else if head = tail then (true, s)
  else if have_ < n || 131072 < head + n then (false, broken)
  else (true, s.setReg (mbx p) 0x004 (BitVec.ofNat 24 ((head + n) % 131072)))

/-- A request from a source: taken, checked, and either answered with the first failure or carried out. -/
def State.request (s : State) (v : Via) (q : Request) (g : State → Demand) (act : State → State) : State :=
  if !s.interprets v then s
  else
    let (ok, t) := match v with | .ring p => s.takePacket p q | _ => (q.len ≤ q.payload.length && !s.follows v q, s)
    if !ok then t
    else
      let c := t.check v q (g t)
      if c.1 ≠ .ok then t.refuse v q c.1 c.2 else act t

/-- A row of R632: the packet must hold the row's opcode, else no such command exists. -/
def State.command (s : State) (op : Nat) (v : Via) (q : Request) (g : State → Demand) (act : State → State) :
    Host.Outcome State Fault Refusal :=
  if q.op = op then .next (s.request v q g act) else .refused .illFormed

/-- The demands of a command that only its fields restrict. -/
def plainDemand (ver : Nat) (fields : Bool) : Demand := { ver := ver, fields := fields, permit := (.ok, 0), mode := true, early := false }

end Sys2Proof.Machine
end

