-- ==== Sys2Proof/Machine/Worlds.lean ====
section
/-! DEFINITION. World registers, what a change of world clears, bank ownership, wipes and tamper trips (15, 17). -/

namespace Sys2Proof.Machine

/-! ### Clearing (R36, R590, R645) -/

/-- Codes of the holders in `System.clears`: a logical tile `t` is `t`, bank `b` 0x1000 + b, region `r` 0x2000 + r, quad `q`
0x3000 + q, a DRAM span 2^40 + its code. -/
def clearTile (t : Nat) : Nat := t
def clearBank (b : Nat) : Nat := 0x1000 + b
def clearRegion (r : Nat) : Nat := 0x2000 + r
def clearQuad (q : Nat) : Nat := 0x3000 + q
def clearSpan (c : Nat) : Nat := 2 ^ 40 + c
/-- The code of a reply that waits for the clearing, with no holder of its own. -/
def clearReply : Nat := 0x4000

def State.clearing (s : State) (c : Nat) : Bool := s.sys.clears.any (fun e => e.1 == c)

/-- Every container of the banks satisfying `p` is 0 with valid check bits. -/
def State.zeroBanks (s : State) (p : Nat → Bool) : State :=
  s.mapMem (fun m => { m with ph := m.ph.filter (fun e => !p (e.1 / 262144)), phBad := m.phBad.filter (fun k => !p (k / 262144)),
                              phSingle := m.phSingle.filter (fun k => !p (k / 262144)) })

/-- Every word of a span of bytes is 0 with valid check bits. -/
def State.zeroDram (s : State) (a n : Nat) : State :=
  s.mapMem (fun m => { m with dram := m.dram.filter (fun e => e.1 < a || a + n ≤ e.1),
                              dramBad := m.dramBad.filter (fun w => 8 * w < a || a + n ≤ 8 * w),
                              dramSingle := m.dramSingle.filter (fun w => 8 * w < a || a + n ≤ 8 * w) })

/-- A region taken to BLANK with its memory blocks 0 (R645); an OFF region stays OFF and is no longer retained. -/
def State.blankRegion (s : State) (r : Nat) : State :=
  let t := if s.rstate r = 0 then s else s.setRstate r 1
  (((t.blankConfig r).dropRam r).quietRegion r).mapTw (fun w => { w with
    retained := setBit w.retained r false, digest := sput 0 w.digest r 0 })

/-- A quad's lanes taken to ACQUIRE. -/
def State.restartQuad (s : State) (q : Nat) : State :=
  (List.range 4).foldl (fun s i => s.laneRestart (4 * q + i) (s.domain (272 + q))) s

/-- The holder of a code is cleared, and its accesses answer BUSY until the clearing is complete. -/
def State.clearHolder (s : State) (c : Nat) : State :=
  let t : State :=
    if 2 ^ 40 ≤ c then s.zeroDram ((c - 2 ^ 40) / 2 ^ 20 * 2 ^ 20) ((c - 2 ^ 40) % 2 ^ 20 * 2 ^ 20)
    else if 0x3000 ≤ c then s.restartQuad (c - 0x3000)
    else if 0x2000 ≤ c then s.blankRegion (c - 0x2000)
    else if 0x1000 ≤ c then s.zeroBanks (fun b => b == c - 0x1000)
    else match physTile s.cv.failed c with
      | some t => s.mapCv (fun v => v.zeroMem (setBit 0#272 t true))
      | none => s
  if 0x3000 ≤ c && c < 0x4000 then t else t.mapSys (fun y => { y with clears := y.clears ++ [(c, none)] })

/-! ### Ownership (R584 to R587, R646) -/

/-- Whether an owner code's world may reach a bank's world. The sequencer's world is that of the access (R643). -/
def State.ownerReaches (s : State) (own : Nat) (secure : Bool) : Bool :=
  !secure || own == 0 || own == 3 || (4 ≤ own && own ≤ 7) || own == 0x20 || (0x30 ≤ own && own ≤ 0x3F)
    || (0x10 ≤ own && own ≤ 0x1F && s.regionWorld (own - 0x10))

/-- The owner codes that PH_OWN_b lists. -/
def ownerListed (c : Nat) : Bool := c ≤ 7 || (0x10 ≤ c && c ≤ 0x20) || (0x30 ≤ c && c ≤ 0x3F)

/-- R646: a bank that its owner's world cannot reach has no owner. -/
def State.fixOwners (s : State) : State :=
  (List.range 64).foldl (fun s b =>
    if s.ownerReaches (s.owner b) (s.bankWorld b) then s else s.setRfld bPH (0x100 + b) 0 8 0) s

/-- A write to PH_OWN_b by a writer whose right to it is `may` (R586, R587, R608): it requests a handover. -/
def State.askHandover (s : State) (may : Bool) (b : Nat) (w : Word) : Status × State :=
  let own := fld w 0 8
  if b < 2 || !may then (.denied, s)
  else if s.wiping b || s.clearing (clearBank b) then (.busy, s)
  else if !ownerListed own || 0x30 ≤ own || !s.ownerReaches own (s.bankWorld b) then (.badParameter, s)
  else (.ok, s.mapMem (fun m => { m with handover := m.handover ++ [(b, own, w.getLsbD 21)] }))

/-- A session's write to PH_OWN_b after the checks of its world: a secure session, or one of the owner's port. -/
def State.writeOwner (s : State) (v : Via) (sess b : Nat) (w : Word) : Status × State :=
  s.askHandover (s.sessionSecure v sess || (v == .ring v.port && s.owner b == ownHost v.port)) b w

/-- A bank's new owner and RDALL. -/
def State.setOwner (s : State) (b own : Nat) (rdall : Bool) : State :=
  (s.setRfld bPH (0x100 + b) 0 8 own).setRfld bPH (0x100 + b) 21 1 rdall.toNat

/-! ### Wipes (R590, R591, R655, R659 to R661) -/

/-- The wipe of banks 56 to 63 begins: their containers are 0, WIPING is 1, and no handover of theirs is left. -/
def State.wipeBanks (s : State) : State :=
  (List.range 8).foldl (fun s i => s.setRfld bPH (0x138 + i) 22 1 1)
    ((s.zeroBanks (fun b => 56 ≤ b)).mapMem (fun m => { m with handover := m.handover.filter (fun e => e.1 < 56) }))

/-- The spans of the valid secure DRAM regions, coded in MiB. -/
def State.secureSpans (s : State) : List Nat :=
  (List.range 16).filterMap (fun k =>
    match s.region k with
    | some (b, z, true) => some (spanCode (b / 2 ^ 20) (z / 2 ^ 20))
    | _ => none)

/-- A wipe can write a span's stack. -/
def State.canWipe (s : State) (c : Nat) : Bool := !s.lost (stackOf (c / 2 ^ 20 * 2 ^ 20))

/-- Every secure DRAM region is written with 0; one in a lost stack is recorded as a pending wipe (R660). -/
def State.wipeDram (s : State) : State :=
  s.secureSpans.foldl (fun s c =>
    if s.canWipe c then s.zeroDram (c / 2 ^ 20 * 2 ^ 20) (c % 2 ^ 20 * 2 ^ 20)
    else { s with otp := { s.otp with pendingWipe := s.otp.pendingWipe ++ [c] } }) s

/-- WIPE_COMPLETE: banks 56 to 63 are ownerless and 0 (R591), and the WIPE command that asked replies. -/
def State.wipeDone (s : State) : State :=
  if !(List.range 8).any (fun i => s.wiping (56 + i)) then s
  else
    let t := (List.range 8).foldl (fun s i => (s.setRfld bPH (0x138 + i) 22 1 0).setOwner (56 + i) 0 false) s
    let u := t.mapSys (fun y => { y with wipe := none })
    match s.sys.wipe with
    | some j =>
      let r := (j.args.zipIdx).filterMap (fun e => if e.1 = 0xFF then none else some (e.2, Status.ofCode e.1))
      u.finish j (partsStatus r).1 (partsStatus r).2 (partsPayload j.w0 r [])
    | none => u

def execWipeComplete (s : State) : Host.Outcome State Fault Refusal := .next s.wipeDone

/-- TAMPER_TRIP (R659): wipes, SEC_TAMPER, and a system reset. Sensor 0 is VOLT, 1 CLK, 2 TEMP. -/
def State.tamper (s : State) (n : Nat) : State :=
  let t := (s.wipeBanks.wipeDram).setRfld bSEC 0x060 (23 - n) 1 1
  let u : State := { t with otp := { t.otp with
    tampers := if t.otp.tampers = BitVec.allOnes 16 then t.otp.tampers else t.otp.tampers + 1 } }
  u.systemReset 8

def execTamperTrip (n : Fin 3) (s : State) : Host.Outcome State Fault Refusal := .next (s.tamper n)

/-! ### World registers (R644 to R647) -/

/-- R647: valid regions lie in one stack's user area and overlap nowhere. -/
def State.regionsOk (s : State) : Bool :=
  let l := (List.range 16).filterMap (fun k => (s.region k).map (fun e => (e.1 / 2 ^ 20, e.2.1 / 2 ^ 20)))
  l.all (fun e => e.1 % 4096 + e.2 ≤ 3584) && (l.zipIdx).all (fun a => (l.zipIdx).all (fun b =>
    a.2 == b.2 || a.1.1 + a.1.2 ≤ b.1.1 || b.1.1 + b.1.2 ≤ a.1.1 || a.1.2 == 0 || b.1.2 == 0))

/-- R647: a secure quad's region is secure. -/
def State.quadsOk (s : State) : Bool :=
  (List.range 36).all (fun q => !s.quadWorld q || s.regionWorld (if q < 12 then q / 3 else (q - 4) / 2))

/-- The MiB spans that a DRAM region gives up, of the secure span it had, under its new words. -/
def givenUp (old new : Option (Nat × Nat × Bool)) : List Nat :=
  match old with
  | some (b, z, true) =>
    let lo := b / 2 ^ 20
    let hi := lo + z / 2 ^ 20
    match new with
    | some (b', z', true) =>
      let lo' := b' / 2 ^ 20
      let hi' := lo' + z' / 2 ^ 20
      (if lo < min hi lo' then [spanCode lo (min hi lo' - lo)] else [])
        ++ (if max lo hi' < hi then [spanCode (max lo hi') (hi - max lo hi')] else [])
    | _ => [spanCode lo (hi - lo)]
  | _ => []

/-- The holders that a change of the world registers takes from secure to non-secure. -/
def State.losesWorld (s t : State) : List Nat :=
  ((List.range 256).filter (fun l => s.tileWorld l && !t.tileWorld l)).map clearTile
    ++ ((List.range 64).filter (fun b => s.bankWorld b && !t.bankWorld b)).map clearBank
    ++ ((List.range 16).filter (fun r => s.regionWorld r && !t.regionWorld r)).map clearRegion
    ++ ((List.range 36).filter (fun q => s.quadWorld q && !t.quadWorld q)).map clearQuad
    ++ ((List.range 16).flatMap (fun k => givenUp (s.region k) (t.region k))).map clearSpan

/-- Whether an offset of SEC holds a world register. -/
def isWorldReg (off : Nat) : Bool := 0x010 ≤ off && off < 0x060

/-- A write to SEC after the check of its offset (R644 to R647). -/
def State.writeSec (s : State) (secure : Bool) (off : Nat) (v : Word) : Status × State :=
  if !secure then (.denied, s)
  else if s.sys.mode ≠ .standby && s.sys.mode ≠ .configure && s.sys.mode ≠ .maintenance then (.wrongMode, s)
  else if off = 0 then (.ok, if v.getLsbD 23 then s.setRfld bSEC 0 23 1 1 else s)
  else if !isWorldReg off then (.ok, s.regApply bSEC off v)
  else if (s.reg bSEC 0).getLsbD 23 then (.ok, s)
  else
    let t := s.regApply bSEC off v
    let n := (off - 0x040) / 2
    if (off = 0x020 && fld v 0 2 ≠ 0) || !t.regionsOk || !t.quadsOk then (.badParameter, s)
    else if 0x040 ≤ off && (s.holder 7 n).isSome && setFld (t.reg bSEC off) 23 1 0 ≠ setFld (s.reg bSEC off) 23 1 0 then
      (.resourceClaimed, s)
    else (.ok, ((s.losesWorld t).foldl State.clearHolder t).fixOwners)

/-- WORLD_CLEAR_COMPLETE: every clearing under way is complete, and the replies that waited for it follow (R645). -/
def State.clearsDone (s : State) : State :=
  let t := s.mapSys (fun y => { y with clears := [] })
  s.sys.clears.foldl (fun t e =>
    match e.2 with
    | some j =>
      let r := (j.args.zipIdx).map (fun e => (e.2, Status.ofCode e.1))
      t.finish j (partsStatus r).1 (partsStatus r).2 (partsPayload j.w0 r [])
    | none => t) t

def execWorldClearComplete (s : State) : Host.Outcome State Fault Refusal := .next s.clearsDone

end Sys2Proof.Machine
end

