-- ==== Sys2Proof/Machine/Access.lean ====
section
/-! DEFINITION. Register accesses: the value every register of R627 shows, the checks of a write in the order of R625 and
R747, and what the write does (02 to 18). -/

namespace Sys2Proof.Machine

/-! ### Values (R9, R12) -/

/-- Level of a queue: entries held. -/
def State.level (s : State) (r q : Nat) : Nat := (sget [] s.tw.queues (1024 * r + q)).length
def State.queueCfg (s : State) (r q : Nat) : Word := s.reg (bTWQ + r) (4 * q)
def queueDepth (v : Word) : Nat := fld v 10 11

/-- TWQ_STAT_Q (R416). -/
def State.queueStat (s : State) (r q : Nat) : Word :=
  let l := s.level r q
  let d := queueDepth (s.queueCfg r q)
  let thr := s.rfld (bTWQ + r) (4 * q + 1) 0 11
  BitVec.ofNat 24 (((d != 0 && l == d).toNat) * 2 ^ 23 + ((l == 0).toNat) * 2 ^ 22 + ((thr != 0 && thr ≤ l : Bool).toNat) * 2 ^ 21 + l)

/-- The patch in effect, in MCU_PSTAT, MCU_PINFO and MCU_PID. -/
def patchWord (p : Option Patch) (off : Nat) : Word :=
  match p with
  | none => 0
  | some p =>
    if off = 0 then BitVec.ofNat 24 (2 ^ 23 + p.uwords.length * 2 ^ 12 + p.nwords.length * 4)
    else if off = 1 then BitVec.ofNat 24 (p.matches_.length * 2 ^ 18 + p.format * 2 ^ 16 + p.svn % 65536)
    else BitVec.ofNat 24 p.id

/-- CGM_LROW_ty. -/
def lrowWord (failed : List Nat) (ty : Nat) : Word :=
  match prowOf failed ty with
  | some p => BitVec.ofNat 24 (32 + p)
  | none => 31

/-- SEC_CERT_k (R666). -/
def Otp.cert (o : Otp) (k : Nat) : Word := BitVec.ofNat 24 (leAt o.certs (3 * k) 3)

/-- NOC_NICTL_n. -/
def State.nictl (s : State) (n : Nat) : Word :=
  setFld (setFld (s.reg bNOC (0x100 + n)) 20 2 (s.niState n)) 19 1 (s.niWorld n).toNat

/-- What a register shows: its stored bits, and the bits that follow other state. -/
def State.regValue (s : State) (blk off : Nat) : Word :=
  let v := s.reg blk off
  if blk = bCGM then if off = 0 then BitVec.ofNat 24 (cgmStatus s.cv.failed) else lrowWord s.cv.failed (off - 0x010)
  else if blk = bMCU then patchWord s.arr.patch off
  else if blk = bSOF then
    match s.sof.effect with
    | some p => if off = 1 then p.xform else if off = 2 then p.tiles else v
    | none => v
  else if blk = bFRK then
    if off = 4 then BitVec.ofNat 24 s.frk.mj else if off = 6 then s.frk.left
    else if off = 9 then sat24 s.frk.bins.sum else v
  else if blk = bOUT then if off = 1 then s.outBusy else v
  else if blk = bTWC then if off < 0x010 then setFld v 22 1 (s.regionWorld off).toNat else v
  else if blk = bNOC then
    if 0x10000 ≤ off then
      let e := s.routeEntry ((off - 0x10000) / 256) ((off - 0x10000) % 256 / 2)
      if off % 2 = 0 then e.1 else e.2
    else if 0x100 ≤ off && off < 0x100 + 111 then s.nictl (off - 0x100)
    else v
  else if bTWQ ≤ blk && blk < bTWQ + 16 && off < 0x1000 && off % 4 = 2 then s.queueStat (blk - bTWQ) (off / 4)
  else if blk = bSEC then
    if off = 0 then setFld v 0 3 s.otp.lifecycle else if off = 0x060 then setFld v 0 16 s.otp.tampers.toNat
    else if off = 0x070 then BitVec.ofNat 24 s.otp.certs.length
    else if 0x10000 ≤ off then s.otp.cert (off - 0x10000) else v
  else if blk = bRST then if off = 3 then 0 else v
  else if blk = bPWR then bitsOf 24 (fun j => 24 * off + j < 357 && s.domain (24 * off + j))
  else v

/-! ### Reads (R645, R747) -/

/-- The clearing code of a register's holder, if its world can change. -/
def Holder.clearCode (h : Holder) (failed : List Nat) : Option Nat :=
  match h with
  | .tile t => (logTile failed t).map clearTile
  | .bank b => some (clearBank b)
  | .region r => some (clearRegion r)
  | _ => none

/-- R645: a register of a holder that is being cleared. -/
def State.holderBusy (s : State) (h : Holder) : Bool :=
  match h.clearCode s.cv.failed with | some c => s.clearing c | none => false

/-- A register read by a session of a world: its status, the value it gives, and the state after. -/
def State.readReg (s : State) (secure : Bool) (blk off : Nat) : Status × Word × State :=
  match regSpec blk off with
  | none => (.badParameter, 0, s)
  | some r =>
    if s.holderSecure r.holder && !secure then (.denied, 0, s)
    else if s.holderBusy r.holder then (.busy, 0, s)
    else (.ok, s.regValue blk off, if blk = bFRK && off = 4 then s.latchEnergy else s)

/-! ### Writes, block by block -/

/-- Critical in the image in effect (R430). -/
def State.critical (s : State) (r : Nat) : Bool := !(s.reg bTWC r).getLsbD 23

/-- Entries of block `b` (R410). -/
def State.blockCap (s : State) (r b : Nat) : Nat :=
  let m := s.rfld (bTWQ + r) (0x1000 + b) 0 3
  if m = 4 then 1024 else if m = 5 then 512 else 0

/-- R411, R444: queue `q` of region `r` may be enabled with configuration `v`. -/
def State.queueFits (s : State) (r q : Nat) (v : Word) : Bool :=
  let lo := fld v 0 10
  let hi := lo + queueDepth v
  2 ≤ queueDepth v && hi ≤ s.blockCap r (q / 8) && (List.range 8).all (fun k =>
    let u := s.queueCfg r (q / 8 * 8 + k)
    k == q % 8 || !u.getLsbD 23 || fld u 0 10 + queueDepth u ≤ lo || hi ≤ fld u 0 10)

/-- The queue holds nothing. -/
def State.flushQueue (s : State) (r q : Nat) : State := s.mapTw (fun t => { t with queues := sdel t.queues (1024 * r + q) })

/-- A write to TWQ_r (R443, R444). -/
def State.writeTwq (s : State) (r off : Nat) (v : Word) : Status × State :=
  let q := off / 4
  let old := s.queueCfg r q
  if off < 0x1000 && off % 4 < 2 && s.critical r && (s.sys.mode == .armed || s.sys.mode == .run) then (.wrongMode, s)
  else if off < 0x1000 && off % 4 = 0 then
    if old.getLsbD 23 && fld old 0 23 ≠ fld v 0 23 then (.busy, s)
    else if v.getLsbD 23 && (fld v 21 2 = 3 || !s.queueFits r q v) then (.badParameter, s)
    else
      let t := s.regApply (bTWQ + r) off v
      (.ok, if v.getLsbD 23 then t else t.flushQueue r q)
  else (.ok, s.regApply (bTWQ + r) off v)

/-- A write to NOC (R570). -/
def State.writeNoc (s : State) (off : Nat) (v : Word) : Status × State :=
  let ctl := 0x100 ≤ off && off < 0x100 + 111
  let rate := 0x400 ≤ off && off < 0x400 + 444
  let n := if ctl then off - 0x100 else (off - 0x400) / 4
  if (ctl || rate) && (102 ≤ n || (rate && off % 4 = 0)) then (.denied, s)
  else if rate && fld v 0 10 < 17 then (.badParameter, s)
  else (.ok, s.regApply bNOC off v)

/-- The region that holds a mailbag's whole ring. -/
def State.ringRegion (s : State) (k : Nat) : Option Nat := s.regionOf (s.ringOf k).1 (16 * (s.ringOf k).2)

/-- R592: enabled mailbags are aligned, within SIZE 8, and share no column. -/
def State.mailbagsOk (s : State) : Bool :=
  (List.range 16).all (fun k =>
    let c := s.reg bMBG (0x010 + k)
    fld c 18 4 ≤ 8 && (!c.getLsbD 23 || (s.rfld bMBG k 0 14 % 2 ^ fld c 18 4 == 0 && (List.range 16).all (fun j =>
      let d := s.reg bMBG (0x010 + j)
      j == k || !d.getLsbD 23 || (fld c 0 16 &&& fld d 0 16) == 0))))

/-- A write to MBG (R597). -/
def State.writeMbg (s : State) (v : Via) (sess off : Nat) (w : Word) : Status × State :=
  let t := s.regApply bMBG off w
  let k := off % 0x010
  let bag := s.needs v sess 2 k
  if off < 0x020 then
    let dram := match t.ringRegion k with | some n => s.needs v sess 7 n | none => .denied
    if bag = .resourceClaimed || dram = .resourceClaimed then (.resourceClaimed, s)
    else if bag ≠ .ok || dram ≠ .ok then (.denied, s)
    else if s.sys.mode == .armed || s.sys.mode == .run then (.wrongMode, s)
    else if !t.mailbagsOk then (.badParameter, s)
    else (.ok, t.mailbagFill k)
  else if 0x030 ≤ off && off < 0x040 then if bag ≠ .ok then (bag, s) else (.ok, t.mailbagFill k)
  else (.ok, t)

/-- A write to TIM: TIM_CFG takes no partition 0xFF. -/
def State.writeTim (s : State) (off : Nat) (v : Word) : Status × State :=
  if off = 0 && fld v 0 8 = 0xFF then (.ok, s) else (.ok, s.regApply bTIM off v)

/-- A write to OUT: claims before modes (R503). -/
def State.writeOutAs (s : State) (v : Via) (sess off : Nat) (w : Word) : Status × State :=
  let need := if 4 ≤ off && off < 8 then s.needs v sess 4 (off - 4)
    else if 0x010 ≤ off && off < 0x020 then s.needs v sess 3 (off - 0x010) else .ok
  if need ≠ .ok then (need, s) else s.writeOut off w

/-- A write to a register that the caller's world may reach: DENIED where every write is (R99, R540), else by block. -/
def State.writeBlock (s : State) (v : Via) (sess blk off : Nat) (w : Word) : Status × State :=
  if blk = bCGM || blk = bMCU || blk = bSOF || blk = bFRK then (.denied, s)
  else if blk = bOUT then s.writeOutAs v sess off w
  else if blk = bTIM then s.writeTim off w
  else if blk = bTWC then
    if off = 0x020 && (s.reg bTWC 0x020).getLsbD 23 then (.ok, s) else (.ok, s.regApply bTWC off w)
  else if blk = bNOC then s.writeNoc off w
  else if blk = bPH then if 0x100 ≤ off then s.writeOwner v sess (off - 0x100) w else (.ok, s.regApply bPH off w)
  else if blk = bMBG then s.writeMbg v sess off w
  else if bLQ ≤ blk && blk < bLQ + 36 then s.writeLq (blk - bLQ) off w
  else if bTWQ ≤ blk && blk < bTWQ + 16 then s.writeTwq (blk - bTWQ) off w
  else if blk = bSEC then s.writeSec (s.sessionSecure v sess) off w
  else (.ok, s.regApply blk off w)

/-- A register written by a session: the checks of R747 and R645, then the block's own. -/
def State.writeReg (s : State) (v : Via) (sess blk off : Nat) (w : Word) : Status × State :=
  match regSpec blk off with
  | none => (.badParameter, s)
  | some r =>
    if s.holderSecure r.holder && !s.sessionSecure v sess then (.denied, s)
    else if s.holderBusy r.holder then (.busy, s)
    else s.writeBlock v sess blk off w

/-- R13: the field of a hit bit, taken as the run of writable bits around it (DESIGN CHOICE, log entry 121). -/
def fieldsHit (rw hit : Word) : Word :=
  bitsOf 24 (fun i => rw.getLsbD i && (List.range 24).any (fun j =>
    hit.getLsbD j && (List.range 24).all (fun k => !(min i j ≤ k && k ≤ max i j) || rw.getLsbD k)))

/-- R13: what a write comes to where a hardware update reaches the bits `hit` in the same clock: a read-write field keeps what the update
left, and a bit that a 1 would clear stays set. -/
def State.outrun (s : State) (blk off : Nat) (v : Cont) (hit : Word) : Cont :=
  match regSpec blk off with
  | some r =>
    let rw := BitVec.ofNat 24 r.rw
    let h := (fieldsHit rw hit ||| (hit &&& ~~~rw)).setWidth 32
    (v &&& ~~~h) ||| ((s.reg blk off &&& rw).setWidth 32 &&& h)
  | none => v

/-! ### BAR0 registers of a port (R603, R604, R611) -/

/-- The model's block of a port's MSI-X table, by doubleword. -/
def bMSX : Nat := 0x114

/-- A doubleword of the MSI-X table; a vector that becomes unmasked while pending is sent. -/
def State.writeMsix (s : State) (p : Port) (k : Nat) (v : Cont) : State :=
  let d : Cont := if k % 4 = 3 then 1 else 0
  let t := s.mapPort p (fun h => { h with msix := sput d h.msix k v })
  if k % 4 = 3 && !v.getLsbD 0 && !(t.port p).config.functionMask && (t.port p).pba.getLsbD (k / 4) then
    t.mapPort p (fun h => { h with pba := setBit h.pba (k / 4) false, vectors := k / 4 :: h.vectors })
  else t

/-- A write to a BAR0 register of the writer's own port by its codes; HOST_ERR is cleared by any value. The other port's
mailbox control ignores it (R604). -/
def State.writeBar (s : State) (p : Port) (blk off : Nat) (v : Cont) : State :=
  if blk = bMSX then if off < 256 then s.writeMsix p off v else s
  else if blk = mbx p then if off = 0x04C then s.setReg blk 0x04C 0 else s.regApply blk off (v.setWidth 24)
  else if blk = dbl p then s.regApply blk off (v.setWidth 24)
  else if blk = bRST && off = 0 then (s.regApply blk off (v.setWidth 24)).say .ok
  else s

/-- A BAR0 register write as it lands, less what a hardware update outruns (R13): a record that HOST_ERR takes then stands. -/
def State.barRegister (s : State) (p : Port) (blk off : Nat) (w : WriteData) : State :=
  if blk = mbx p && off = 0x04C && w.hit ≠ 0 then s else s.writeBar p blk off (s.outrun blk off w.value w.hit)

/-! ### BAR accesses on their way (R602, R605, R606, R692) -/

/-- The DRAM address of a BAR2 offset. -/
def State.bar2At (s : State) (p : Port) (off : Nat) : Nat := s.rfld (mbx p) 0x040 0 6 * 2 ^ 28 + off

/-- R695: the ports that the boot source permits while the boot ROM waits for an image. -/
def State.bootPort (s : State) (p : Port) : Bool :=
  match s.sys.boot with
  | .host _ => s.rfld bRST 1 (4 + portIdx p) 1 == 1
  | _ => false

/-- A port's BAR accesses reach the module: its link is up and its function is in D0 (R599, R606). -/
def State.portOn (s : State) (p : Port) : Bool := (s.port p).link && !(s.port p).config.d3hot && !s.sys.shutdown

/-- A memory that a BAR access goes to through the network: its NI, the class and the flits of the requests (R551, R602; the class is a
DESIGN CHOICE, log entry 125). -/
structure BarTarget where
  dst : Nat
  vc : Nat
  flits : Nat
  deriving DecidableEq, Repr

/-- The pieces of a span that lie in one 512-byte line each: address and length (R571). -/
def linesOf (a n : Nat) : List (Nat × Nat) :=
  (List.range ((a + n - 1) / 512 + 1 - a / 512)).map (fun i =>
    let lo := max a ((a / 512 + i) * 512)
    (lo, min (a + n) ((a / 512 + i + 1) * 512) - lo))

/-- BAR2 traffic of `n` bytes. -/
def State.bar2Target (s : State) (p : Port) (off n : Nat) (wr : Bool) : Option BarTarget :=
  if s.bootPort p then none
  else
    let a := s.bar2At p off
    some { dst := dramNi a, vc := 1, flits := ((linesOf a n).map (fun l => if wr then flits l.2 else 1)).sum }

/-- An access through a bank window: one container, as register traffic. -/
def State.bankTarget (s : State) (p : Port) (own wr : Bool) : Option BarTarget :=
  some { dst := 32 + (if own then portIdx p else s.rfld (mbx p) 0x044 0 6) / 4, vc := 0, flits := if wr then 2 else 1 }

/-- The tokens that an access takes at the port's regulator: at most a full bucket's (R553). -/
def State.barNeed (s : State) (p : Port) (x : BarTarget) : Nat := min x.flits (s.rfld bNOC (0x400 + 4 * (100 + portIdx p) + x.vc) 0 10)

/-- What holds a BAR access at the port: an earlier write that is held (R605), INJEN, a change of NOC_MODE or a NoC in reset, its regulator,
or the way to its memory. -/
def State.barHeld (s : State) (p : Port) (x : Option BarTarget) : Bool :=
  let n := 100 + portIdx p
  s.sys.posted.any (fun e => e.1 == p) || !s.nocUp || s.turning || !(s.reg bNOC (0x100 + n)).getLsbD 23
    || (match x with
      | some x => !s.hasTokens n x.vc (s.barNeed p x) || (s.bounced n x.dst == none && s.wayHeld n x.dst)
      | none => false)

/-- An access enters the network, and takes its tokens. -/
def State.barSpend (s : State) (p : Port) (x : Option BarTarget) : State :=
  match x with
  | some x => s.spend (100 + portIdx p) x.vc (s.barNeed p x)
  | none => s

/-- The memory that a write goes to. -/
def State.writeTarget (s : State) (p : Port) (c : BarWrite) : Option BarTarget :=
  match c with
  | .memory off d => s.bar2Target p off d.length true
  | .bank own _ _ => s.bankTarget p own true
  | _ => none

/-- A port's BAR accesses, to a memory or elsewhere, reach the module and take effect at once (R606, R692). -/
def State.awakeTo (s : State) (p : Port) (x : Option BarTarget) : Bool := s.portOn p && s.sys.mode != .sleep && !s.barHeld p x
def State.awake (s : State) (p : Port) : Bool := s.awakeTo p none

/-- R692: the BAR write `c` with its effect. In SLEEP, or where the network holds it (R559, R564, R568), it waits at the port; in SLEEP it
starts a wake. -/
def State.atPort (s : State) (p : Port) (c : BarWrite) (act : State → State) : State :=
  let x := s.writeTarget p c
  if !s.portOn p then s
  else if s.awakeTo p x then (act (s.barSpend p x)).wake
  else (s.mapSys (fun y => { y with posted := y.posted ++ [(p, c)] })).wake

/-! ### The rows that write one register -/

/-- A register write by a session, with its status kept for the row (DESIGN CHOICE, log entry 12). -/
def State.writeAs (s : State) (u : Who) (blk off : Nat) (w : Word) : State :=
  let (st, t) := s.writeReg (.ring u.port) u.sess.toNat blk off w
  t.say st

def execLqPllWrite (u : Who) (n : Fin 36) (v : Word) (s : State) : Host.Outcome State Fault Refusal :=
  .next (s.writeAs u (bLQ + n) 0 v)
def execLqCfgWrite (u : Who) (l : Fin 144) (v : Word) (s : State) : Host.Outcome State Fault Refusal :=
  .next (s.writeAs u (lqBlk l) (4 + l % 4) v)
def execTwqCfgWrite (u : Who) (n : Fin 16384) (thr : Bool) (v : Word) (s : State) : Host.Outcome State Fault Refusal :=
  .next (s.writeAs u (bTWQ + n / 1024) (4 * (n % 1024) + thr.toNat) v)
def execNocNictlWrite (u : Who) (n : Fin 111) (v : Word) (s : State) : Host.Outcome State Fault Refusal :=
  .next (s.writeAs u bNOC (0x100 + n) v)
def execNocRateWrite (u : Who) (n : Fin 111) (c : Fin 4) (v : Word) (s : State) : Host.Outcome State Fault Refusal :=
  .next (s.writeAs u bNOC (0x400 + 4 * n + c) v)
/-- PH_OWN_WRITE: a session's register write; the write of secure firmware, whoever the owner is, or of the owner (R586). -/
def execPhOwnWrite (u : OwnWriter) (n : Fin 64) (v : Word) (s : State) : Host.Outcome State Fault Refusal :=
  match u with
  | .session u => .next (s.writeAs u bPH (0x100 + n) v)
  | .firmware => .next ((s.askHandover true n v).2.say (s.askHandover true n v).1)
  | .owner c => .next ((s.askHandover (c != 0 && s.owner n == c.toNat) n v).2.say (s.askHandover (c != 0 && s.owner n == c.toNat) n v).1)
def execSecWorldWrite (u : Who) (off : Word) (v : Word) (s : State) : Host.Outcome State Fault Refusal :=
  .next (s.writeAs u bSEC off.toNat v)

/-- REGISTER_WRITE: a target block's register, less what a hardware update outruns (R13), or one of BAR0, to which RST_CAUSE belongs too; a
BAR0 doubleword with partial byte enables is ignored (R604). -/
def State.registerWrite (s : State) (u : Who) (blk off : Nat) (w : WriteData) : State :=
  if blockListed blk && !(blk = bRST && off = 0) then s.writeAs u blk off ((s.outrun blk off w.value w.hit).setWidth 24)
  else if w.be ≠ 0xF then s
  else s.atPort u.port (.register blk off w) (fun t => t.barRegister u.port blk off w)

def execRegisterWrite (u : Who) (blk : BitVec 12) (off : Word) (v : WriteData) (s : State) : Host.Outcome State Fault Refusal :=
  .next (s.registerWrite u blk.toNat off.toNat v)

/-! ### REG_READ and REG_WRITE (R632, R641, R747) -/

/-- R627: a block that REG_READ and REG_WRITE may name. -/
def regBlock (b : Nat) : Bool := b != 0 && blockListed b

/-- `n` registers from an offset, in order. -/
def State.readRegs (s : State) (secure : Bool) (blk off n : Nat) : List (Status × Word) × State :=
  match n with
  | 0 => ([], s)
  | k + 1 =>
    let (st, w, t) := s.readReg secure blk off
    let (l, u) := t.readRegs secure blk (off + 1) k
    ((st, w) :: l, u)

/-- Values written to registers from an offset, in order, less what hardware updates of the same clocks outrun (R13). -/
def State.writeRegs (s : State) (v : Via) (sess blk off : Nat) (ws hits : List Word) : List Status × State :=
  match ws with
  | [] => ([], s)
  | w :: r =>
    let (st, t) := s.writeReg v sess blk off ((s.outrun blk off (w.setWidth 32) (hits.headD 0)).setWidth 24)
    let (l, u) := t.writeRegs v sess blk (off + 1) r hits.tail
    (st :: l, u)

def numbered {α : Type} (l : List α) : List (Nat × α) := l.zipIdx.map (fun e => (e.2, e.1))

def State.regRead (s : State) (v : Via) (q : Request) : State :=
  s.request v q (fun _ => plainDemand 1 (regBlock q.block && q.len == 2 && 1 ≤ q.arg 1 && q.arg 1 ≤ 256)) (fun t =>
    let (l, u) := t.readRegs (t.sessionSecure v q.sess) q.block (q.arg 0) (q.arg 1)
    let r := numbered (l.map (·.1))
    u.answerTo v q (partsStatus r).1 (partsStatus r).2 (partsPayload (q.w0.setWidth 24) r (l.map (·.2))))

def execRegRead (p : Port) (q : Request) (s : State) : Host.Outcome State Fault Refusal :=
  if q.op = 0x7E then .next (s.regRead (.ring p) q) else .refused .illFormed

/-- The claim that refuses a write of `w` to a register, as the detail that names its holder (R638). -/
def State.claimDetail (s : State) (v : Via) (sess blk off : Nat) (w : Word) : Nat :=
  let by_ (c k : Nat) : Option Nat := s.heldBy v sess c k
  let d := if blk = bSEC then (s.holder 7 ((off - 0x040) / 2)).map Claim.detail
    else if blk = bOUT then (if off < 8 then by_ 4 (off - 4) else by_ 3 (off - 0x010))
    else if blk = bMBG then
      match by_ 2 (off % 0x010) with
      | some d => some d
      | none => ((s.regApply bMBG off w).ringRegion (off % 0x010)).bind (by_ 7)
    else none
  d.getD 0

/-- The detail of a REG_WRITE: a claim that refuses all of it is named. -/
def State.writeDetail (s : State) (v : Via) (q : Request) (r : List (Nat × Status)) : Nat :=
  if (partsStatus r).1 = .resourceClaimed then s.claimDetail v q.sess q.block (q.arg 0) (q.word 2) else (partsStatus r).2

/-- REG_WRITE: where a write starts a clearing, the reply waits for it (R645). -/
def State.regWrite (s : State) (v : Via) (q : Request) : State :=
  s.request v q (fun _ => plainDemand 1 (regBlock q.block && q.len == 2 + q.arg 1 && 1 ≤ q.arg 1 && q.arg 1 ≤ 256)) (fun t =>
    let (l, u) := t.writeRegs v q.sess q.block (q.arg 0) (q.words.drop 2) q.hits
    let r := numbered l
    if u.sys.clears.length ≤ t.sys.clears.length then
      u.answerTo v q (partsStatus r).1 (t.writeDetail v q r) (partsPayload (q.w0.setWidth 24) r [])
    else
      let j := jobOf q v (l.map (·.code))
      (u.begin j).mapSys (fun y => { y with clears := y.clears ++ [(clearReply, some j)] }))

def execRegWrite (p : Port) (q : Request) (s : State) : Host.Outcome State Fault Refusal :=
  if q.op = 0x7F then .next (s.regWrite (.ring p) q) else .refused .illFormed

end Sys2Proof.Machine
end

