-- ==== Sys2Proof/Machine/Tweed.lean ====
section
/-! DEFINITION. Hardware queues, the writing of Tweed frames, release, user PLLs (10), and the sequencer lines that Tweed and
the general timers raise (06). -/

namespace Sys2Proof.Machine

/-! ### Queues (R410 to R416) -/

/-- An entry as its block stores it. -/
def State.entryBits (s : State) (r q : Nat) (d : BitVec 72) : BitVec 72 :=
  if s.blockCap r (q / 8) = 1024 then d &&& BitVec.ofNat 72 (2 ^ 36 - 1) else d

/-- A push, with or without a pop in the same cycle, on the queue state at the start of the cycle (R412 to R415). -/
def State.queuePush (s : State) (r q : Nat) (d : BitVec 72) (pop : Bool) : State :=
  let cfg := s.queueCfg r q
  let l := sget [] s.tw.queues (1024 * r + q)
  if !s.runs r || !cfg.getLsbD 23 then s
  else
    let full := decide (queueDepth cfg ≤ l.length)
    let old := fld cfg 21 2 == 2
    let e := s.entryBits r q d
    let kept := if pop || (full && old) then l.drop 1 else l
    let l' := if full && !old then kept else kept ++ [e]
    let t := s.mapTw (fun w => { w with
      queues := sput [] w.queues (1024 * r + q) l',
      popped := if pop then sput (0, false) w.popped (1024 * r + q) (match l with | x :: _ => (x, true) | [] => (0, false))
        else w.popped })
    if full && !(old && pop) then t.count (bTWQ + r) (4 * q + 3) 1 else t

def execQueuePush (n : Fin 16384) (data : BitVec 72) (pop : Bool) (s : State) : Host.Outcome State Fault Refusal :=
  .next (s.queuePush (n / 1024) (n % 1024) data pop)

/-- The push port's ready output for a queue (R413, R415, R422). -/
def State.pushReady (s : State) (r q : Nat) : Bool :=
  let cfg := s.queueCfg r q
  s.rstate r == 3 && cfg.getLsbD 23 && (fld cfg 21 2 != 0 || decide (s.level r q < queueDepth cfg))

/-- A pop (R415). -/
def State.queuePop (s : State) (r q : Nat) : State :=
  if !s.runs r || !(s.queueCfg r q).getLsbD 23 then s
  else
    let l := sget [] s.tw.queues (1024 * r + q)
    s.mapTw (fun w => { w with
      queues := sput [] w.queues (1024 * r + q) (l.drop 1),
      popped := sput (0, false) w.popped (1024 * r + q) (match l with | x :: _ => (x, true) | [] => (0, false)) })

def execQueuePop (n : Fin 16384) (s : State) : Host.Outcome State Fault Refusal := .next (s.queuePop (n / 1024) (n % 1024))

/-! ### Lines (R266) -/

/-- Tweed user logic runs where a region is ACTIVE and clocked. -/
def execTweedUserInterrupt (s : State) : Host.Outcome State Fault Refusal :=
  .next (if (List.range 16).any s.runs then s.raiseLine 8 else s)

/-- A timer raises line 6 while it is claimed (R639, DEDUCED, log entry 14). -/
def execGeneralTimerExpiry (n : Fin 8) (s : State) : Host.Outcome State Fault Refusal :=
  .next (if (s.holder 5 n).isSome then s.raiseLine 6 else s)

/-! ### User PLLs (R684) -/

/-- TWEED_PLL_LOSS_OF_LOCK: the clocks that the PLL drives stop, and no reset follows (R684). -/
def execTweedPllLossOfLock (n : Fin 8) (s : State) : Host.Outcome State Fault Refusal := .next (s.setRfld bCLK 0 (12 + n) 1 0)
def execTweedPllLock (n : Fin 8) (s : State) : Host.Outcome State Fault Refusal := .next (s.setRfld bCLK 0 (12 + n) 1 1)

/-! ### Loading (R424 to R429) -/

/-- TWC_STATUS. REGION is the region of the failing frame (R428); where no frame has failed, it is 0 after a load and the region read after
a READBACK (DESIGN CHOICE, log entry 104). -/
def State.setTwc (s : State) (busy : Bool) (op region : Nat) (st : Status) : State :=
  s.setReg bTWC 0x010 (BitVec.ofNat 24 (busy.toNat * 2 ^ 23 + op * 2 ^ 20 + region * 2 ^ 16 + st.code * 2 ^ 8))

/-- The regions a load writes. -/
def TweedLoad.regions (l : TweedLoad) : List Nat := (tweedRegions l.image).filter (fun r => l.barred != some r)

/-- A region enters LOADING (R422, R426): powered, empty, its previous configuration gone. -/
def State.toLoading (s : State) (r : Nat) : State :=
  let t := ((s.blankConfig r).setReg bTWC r 2).setDomain (312 + r) true
  let t : State := { t with dn := { t.dn with waiting := t.dn.waiting.filter (fun e => e.1 / 2 != r) } }
  (t.quietRegion r).mapTw (fun w => { w with retained := setBit w.retained r false, digest := sput 0 w.digest r 0 })

/-- TWC_STATUS.OP of a load. -/
def TweedLoad.op (l : TweedLoad) : Nat := if l.reload then 4 else if (tweedRegions l.image).length < 16 then 2 else 1

/-- TWC_STATUS while and after a load: REGION is that of the failing frame, and 0 where no frame fails; a rollback reload keeps the status
and region of the failed check (R428; DESIGN CHOICE, log entry 104). -/
def State.showLoad (s : State) (l : TweedLoad) (busy : Bool) : State :=
  if l.reload then s.setTwc busy l.op (s.rfld bTWC 0x010 16 4) l.cause else s.setTwc busy l.op 0 .ok

/-- R426: the load of an image begins. -/
def State.startLoad (s : State) (l : TweedLoad) : State :=
  let t := l.regions.foldl State.toLoading s
  (t.mapTw (fun w => { w with load := some l })).showLoad l true

/-- A frame's bits are written: the initial values of the flip-flops and the isolation values follow, and a memory frame gives its block
its contents (R422). -/
def State.putFrame (s : State) (r k : Nat) (d : BitVec 4096) : State :=
  let t := s.mapTw (fun w => { w with config := sput 0 w.config (3584 * r + k) d })
  if 2432 ≤ k then t.mapTw (fun w => w.memoryFrame r k d)
  else t.mapTw (fun w => { w with flops := sput 0 w.flops r (w.initialFlops r), boundary := sput 0 w.boundary r (w.isolation r) })

/-- R511: in STANDBY the regions of a load go off again when it is over. -/
def State.regate (s : State) : State := if s.sys.mode = .standby && s.tw.load.isNone then s.tweedOff.repower else s

/-- R669: a change of M_TWEED joins the run's record. -/
def State.chainTweed (s : State) : State := s.chain (fun r => { r with mTweed := chained r.mTweed s.mTweed s.postmark })

/-- R428: a check of the load has failed at frame `i`: every region of the image goes to BLANK. -/
def State.failLoad (s : State) (l : TweedLoad) (i : Nat) (st : Status) : State :=
  let (r, k) := frameAddr l.image i
  let t := l.regions.foldl (fun s r => ((s.setReg bTWC r 1).blankConfig r).quietRegion r) s
  (((t.mapTw (fun w => { w with load := none })).setTwc false l.op r st).setReg bTWC 0x011 (BitVec.ofNat 24 k)).chainTweed

/-- R443: the TWQ registers take the values of the region control frame. -/
def State.controlled (s : State) (r : Nat) : State :=
  let f := sget 0 s.tw.config (3584 * r)
  let put (s : State) (off mask : Nat) : State := s.setReg (bTWQ + r) off (Config.controlFrame f off &&& BitVec.ofNat 24 mask)
  let t := (List.range 1024).foldl (fun s q => put (put (put s (4 * q) 0xFFFFFF) (4 * q + 1) 0x7FF) (4 * q + 3) 0xFFFFFF) s
  (List.range 128).foldl (fun s b => put s (0x1000 + b) 7) t

/-- R427: the regions of a load that has passed every check become ACTIVE together; its 24 controller cycles are one step (DESIGN CHOICE,
log entry 104). -/
def State.releaseLoad (s : State) (l : TweedLoad) : State :=
  let t := l.regions.foldl (fun s r =>
    (((s.setReg bTWC r (BitVec.ofNat 24 (3 + (tweedNoncrit l.image r).toNat * 2 ^ 23))).controlled r).mapTw (fun w => { w with
      digest := sput 0 w.digest r (tweedDigest l.image),
      fbpins := if r = 15 then tweedFbpins l.image else w.fbpins })).driveRegion r) s
  let t := (t.mapTw (fun w => { w with load := none })).showLoad l false
  t.chainTweed.regate

/-! ### The fabric's clocks -/

/-- One clock of the user logic of every ACTIVE region whose clocks run, and one word cycle of every lane's transmitter (R365, R403; DESIGN CHOICE, log
entry 2). -/
def State.fabricTick (s : State) : State :=
  let t := ((List.range 16).filter s.runs).foldl State.fabricRegion s
  ((List.range 144).filter (fun l => s.laneState l != 0)).foldl State.laneTick t

end Sys2Proof.Machine
end

