-- ==== Sys2Proof/Machine/Commit.lean ====
section
/-! DEFINITION. LOAD_IMAGE, COMMIT, PLACE, GET_PLACEMENT and SET_MODE, with the frames and release of a Tweed load and the end
of a mode transition (10, 11, 16, 18). -/

namespace Sys2Proof.Machine

/-! ### Modes -/

/-- Mode sets of R632. -/
def State.inModes (s : State) (l : List Mode) : Bool := l.contains s.sys.mode

/-- The mode with a code. -/
def modeOf (c : Nat) : Option Mode := ([.sleep, .standby, .configure, .armed, .run, .maintenance] : List Mode)[c]?

/-- The transitions of R690 that SET_MODE makes. -/
def canMove (a b : Mode) : Bool :=
  match a, b with
  | .standby, .sleep | .standby, .configure | .standby, .armed | .configure, .armed | .armed, .configure
  | .configure, .standby | .armed, .standby | .standby, .maintenance | .configure, .maintenance | .armed, .maintenance
  | .maintenance, .standby => true
  | _, _ => false

/-- The firmware copy that a wake checks again (R693); the golden image has passed its check at start-up. -/
def State.firmwareGood (s : State) : Bool :=
  match s.committedImage 0 with
  | [] => true
  | b => firmwareCheck s.otp b == .ok

/-- The golden firmware runs (R693, R695). -/
def State.goldenBoots (s : State) : State :=
  ((s.keepImage 0 []).mapSys (fun y => { y with
    mFw := firmwareDigest s.otp.goldenFirmware, fwSvn := leAt s.otp.goldenFirmware 6 2 })).setRfld bRST 0 12 1 1

/-- MODE_TRANSITION_COMPLETE (R690 to R693): HOST_MODE shows the new mode and the command that asked replies. SET_MODE 0 has
replied before. A change of NOC_MODE waits until no packet is in the network (R559), and what is switched off until its NIs are quiet
(R566, R686). A wake that arrived on the way into SLEEP begins at once. -/
def State.transitionDone (s : State) : State :=
  match s.sys.transition with
  | none => s
  | some (m, j) =>
    if (s.turning && !s.netEmpty) || !s.closedFor m || s.sys.shutdown then s else
    let wake := s.sys.mode == .sleep
    let t := (s.mapSys (fun y => { y with transition := none })).enterMode m
    let t := if wake && !t.firmwareGood then t.goldenBoots else t
    let t := t.finish? j .ok 0 []
    let t := t.sys.abandoned.foldl (fun s j => s.finish j .wrongMode 0 []) (t.mapSys (fun y => { y with abandoned := [] }))
    if m = .sleep && t.sys.wakeDue then
      t.mapSys (fun y => { y with wakeDue := false, transition := some (.standby, none) })
    else t

/-- A transition to mode `m` begins: the NIs of what it switches off are CLOSING (R566, R686, R690). -/
def State.beginMove (s : State) (m : Mode) (j : Option Job) : State :=
  (s.mapSys (fun y => { y with transition := some (m, j) })).closeFor m 1

/-- R691: a fault abandons a transition under way; its SET_MODE replies WRONG_MODE once the mode that the fault leaves is reached. -/
def State.abandon (s : State) : State :=
  match s.sys.transition with
  | some (m, j) => (s.mapSys (fun y => { y with transition := none, abandoned := y.abandoned ++ j.toList })).closeFor m 0
  | none => s

/-- R713: both stacks of a mirror pair are lost. -/
def State.pairLost (s : State) : Bool := (s.lost 0 && s.lost 2) || (s.lost 1 && s.lost 3)

/-- A program and a placement are in effect (R691). -/
def State.ready (s : State) : Bool := !(s.committedImage 3).isEmpty && s.sof.effect.isSome

/-- SET_MODE (R691). -/
def State.setMode (s : State) (v : Via) (q : Request) : State :=
  let cur := s.sys.mode
  let to_ := (modeOf (q.arg 0)).getD .run
  s.request v q (fun t => { ver := 1, fields := q.len == 1 && q.arg 0 < 6, permit := (.ok, 0),
                            mode := to_ == cur || (canMove cur to_ && (to_ != .armed || t.ready)), early := false }) (fun t =>
    if to_ = cur then t.answerTo v q .ok 0 []
    else if to_ = .armed && t.pairLost then t.answerTo v q .routeFault 0 []
    else
      let j := jobOf q v []
      let t := if cur = .armed then t.mapSys (fun y => { y with accepted := none }) else t
      if to_ = .sleep then (t.answerTo v q .ok 0 []).beginMove .sleep none else (t.begin j).beginMove to_ (some j))

def execSetMode (p : Port) (q : Request) (s : State) : Host.Outcome State Fault Refusal :=
  if q.op = 0x03 then .next (s.setMode (.ring p) q) else .refused .illFormed

/-! ### LOAD_IMAGE (R633, R640) -/

/-- Regions that an image names and that are critical, there or in the image (R430). -/
def State.namesCritical (s : State) (b : List Byte) : Bool :=
  (tweedRegions b).any (fun r => !tweedNoncrit b r || ((s.rstate r == 3 || s.tw.retained.getLsbD r) && s.critical r))

/-- Regions secure to a session that may not name them (R431). -/
def State.namesSecure (s : State) (secure : Bool) (b : List Byte) : Bool := !secure && (tweedRegions b).any s.regionWorld

/-- Step 4 of R425: the fallback pins are free or the session's. -/
def State.pinsFree (s : State) (v : Via) (sess : Nat) (b : List Byte) : Option Nat :=
  if tweedFbpins b || (tweedRegions b).contains 15 then s.heldBy v sess 6 0 else none

/-- The loader's checks of an image of a kind. -/
def State.imageCheck (s : State) (v : Via) (sess kind : Nat) (b : List Byte) : Status × Nat :=
  if kind = 0 then (firmwareCheck s.otp b, 0)
  else if kind = 1 then (patchCheck s.otp b, 0)
  else if kind = 3 then (progCheck b, 0)
  else if kind = 4 then (mapCheck b, 0)
  else
    let st := tweedHeader s.otp ((s.reg bTWC 0x020).getLsbD 0) b
    if st ≠ .ok then (st, 0)
    else if s.namesSecure (s.sessionSecure v sess) b then (.denied, 0)
    else match s.pinsFree v sess b with
      | some d => (.resourceClaimed, d)
      | none => if s.inModes [.armed, .run] && s.namesCritical b then (.wrongMode, 0) else (.ok, 0)

/-- The modes of R633. -/
def State.imageMode (s : State) (kind : Nat) : Bool :=
  if kind = 0 then s.inModes [.maintenance]
  else if kind = 1 then s.inModes [.standby, .configure, .maintenance]
  else if kind = 2 then s.inModes [.standby, .configure, .maintenance, .armed, .run]
  else s.inModes [.configure]

/-- What a LOAD_IMAGE demands. -/
def State.imageDemand (s : State) (v : Via) (q : Request) (kind : Nat) : Demand :=
  let held := match s.heldBy v q.sess 8 kind with | some d => (Status.resourceClaimed, d) | none => (Status.ok, 0)
  { ver := 1, fields := q.len == 5 && q.arg 0 < 5 && q.addrOk 1 && q.countOk 3,
    permit := if kind < 2 && !s.sessionSecure v q.sess then (.denied, 0)
      else if s.dramFor v q.sess (q.addr 1) (q.addr 3) ≠ .ok then (s.dramFor v q.sess (q.addr 1) (q.addr 3), 0) else held,
    mode := s.imageMode kind, early := 2 ≤ kind }

/-- LOAD_IMAGE of a kind: read, checked, and staged with its slot. -/
def State.loadImage (s : State) (v : Via) (q : Request) (kind : Nat) : State :=
  s.request v q (fun t => t.imageDemand v q kind) (fun t =>
    let (st, b, u) := t.dramRead (q.addr 1) (q.addr 3)
    if st ≠ .ok then u.answerTo v q st 0 []
    else
      let (st, d) := u.imageCheck v q.sess kind b
      if st ≠ .ok then u.answerTo v q st d []
      else
        let w := (u.addClaim v q.sess 8 kind).mapSys (fun y => { y with staged := sput [] y.staged kind b })
        let w := if kind = 2 && !w.inModes [.sleep, .standby] then (tweedRegions b).foldl State.ungateRegion w else w
        w.answerTo v q .ok 0 (packBytes (digestBytes (Config.sha512 b))))

/-- A request of the row for a kind; a kind above 4 belongs to no row, and any of them answers it. -/
def imageRow (q : Request) (kind : Nat) : Bool := q.op == 0x10 && (q.arg 0 == kind || 4 < q.arg 0)

def execLoadImageFirmware (p : Port) (q : Request) (s : State) : Host.Outcome State Fault Refusal :=
  if imageRow q 0 then .next (s.loadImage (.ring p) q 0) else .refused .illFormed
def execLoadImagePatch (p : Port) (q : Request) (s : State) : Host.Outcome State Fault Refusal :=
  if imageRow q 1 then .next (s.loadImage (.ring p) q 1) else .refused .illFormed
def execLoadImageTweed (p : Port) (q : Request) (s : State) : Host.Outcome State Fault Refusal :=
  if imageRow q 2 then .next (s.loadImage (.ring p) q 2) else .refused .illFormed
def execLoadImageProgram (p : Port) (q : Request) (s : State) : Host.Outcome State Fault Refusal :=
  if imageRow q 3 then .next (s.loadImage (.ring p) q 3) else .refused .illFormed
def execLoadImageChannelMap (p : Port) (q : Request) (s : State) : Host.Outcome State Fault Refusal :=
  if imageRow q 4 then .next (s.loadImage (.ring p) q 4) else .refused .illFormed

/-! ### COMMIT (R634) -/

/-- Kinds that a COMMIT word names. -/
def commitKinds (w : Nat) : List Nat := (List.range 5).filter (fun k => w.testBit k)

def State.stagedImage (s : State) (k : Nat) : List Byte := sget [] s.sys.staged k

/-- R467: the program, map and placement that would be in effect match. -/
def State.matches_ (s : State) (w : Nat) : Bool :=
  let prog := if w.testBit 3 then s.stagedImage 3 else s.committedImage 3
  let map := if w.testBit 4 then s.stagedImage 4 else s.committedImage 4
  let pl := if w.testBit 5 then s.sof.staged else s.sof.effect
  match pl with
  | some p => !prog.isEmpty && p.map == map && p.stencilSec == progSection prog 3 && p.keptSec == progSection prog 4
  | none => false

/-- The modes of each part, and of ARM; a Tweed load that names a critical region runs in CONFIGURE and MAINTENANCE alone (R430). -/
def State.commitMode (s : State) (w : Nat) : Bool :=
  (!w.testBit 0 || (w == 1 && s.inModes [.maintenance]))
    && (!w.testBit 1 || s.inModes [.standby, .configure, .maintenance])
    && (!w.testBit 2 || s.inModes [.configure, .maintenance]
        || (s.inModes [.standby, .armed, .run] && !s.namesCritical (s.stagedImage 2)))
    && (!(w.testBit 3 || w.testBit 4 || w.testBit 5 || w.testBit 8) || s.inModes [.configure])

/-- What a COMMIT demands. -/
def State.commitDemand (s : State) (v : Via) (q : Request) : Demand :=
  let w := q.arg 0
  let secure := s.sessionSecure v q.sess
  let b := s.stagedImage 2
  let slot := ((commitKinds w).filterMap (fun k => s.heldBy v q.sess 8 k)).head?
  { ver := 1,
    fields := q.len == 1 && w % 64 != 0 && w < 512 && w / 64 % 4 == 0
      && (commitKinds w).all (fun k => !(s.stagedImage k).isEmpty) && (!w.testBit 5 || s.sof.staged.isSome),
    permit := match slot with
      | some d => (.resourceClaimed, d)
      | none =>
        if w.testBit 3 && declaresSecure (s.stagedImage 3) && !secure then (.denied, 0)
        else if w.testBit 2 && s.namesSecure secure b then (.denied, 0)
        else match (if w.testBit 2 && tweedHeader s.otp ((s.reg bTWC 0x020).getLsbD 0) b = .ok then s.pinsFree v q.sess b else none) with
          | some d => (.resourceClaimed, d)
          | none => (.ok, 0),
    mode := s.commitMode w, early := false }

/-- A program image takes effect (R217, R218, R220, R651). -/
def State.useProgram (s : State) (b : List Byte) (secure : Bool) : State :=
  let x := if secure then progSection b 6 else []
  let field (o len d : Nat) : Nat := if x.isEmpty then d else leAt x o len
  let gates := (List.range 16).foldl (fun m i => sput 0 m i (gateWord x i)) []
  let t := (s.keepImage 3 b).mapSys (fun y => { y with entry := progEntry b })
  let t : State := { t with smem := progMemory b }
  t.mapSeq (fun q => { q with
    isecBase := BitVec.ofNat 19 (field 0 4 0x40000), dsecBase := BitVec.ofNat 19 (field 4 4 0x40000),
    tvbaseS := BitVec.ofNat 10 (field 8 4 0), isec := BitVec.ofNat 16 (field 12 4 0), gates := gates })

/-- Firmware takes effect: the service cores restart on it. The module goes to STANDBY (R634), as after SET_MODE 1 (R559, R690). -/
def State.useFirmware (s : State) (b : List Byte) : State :=
  (s.keepImage 0 b).mapSys (fun y => { y with
    mFw := firmwareDigest b, fwSvn := leAt b 6 2, cores := List.replicate 4 Core.reset })

/-- R463: a committed placement gates the tiles it does not use; kept planes are written into the others (R460). -/
def State.placeTiles (s : State) : State :=
  (s.mapCv (fun c => c.powerTiles (s.physSet s.usedTile) false)).writeImages s.usedTile

/-- The parts of a COMMIT other than its Tweed image take effect, and the slots are released. -/
def State.applyParts (s : State) (w : Nat) (secure : Bool) : State :=
  let t := if w.testBit 0 then s.useFirmware (s.stagedImage 0) else s
  let t := if w.testBit 1 then t.mapArr (fun a => { a with patch := some (patchOf (s.stagedImage 1)), patchBad := [] }) else t
  let t := if w.testBit 3 then t.useProgram (s.stagedImage 3) secure else t
  let t := if w.testBit 4 then t.keepImage 4 (s.stagedImage 4) else t
  let t := match (if w.testBit 5 then t.sof.staged else none) with
    | some p =>
      let u := (t.usePlacement p).placeTiles
      let u : State := { u with sof := { u.sof with staged := none } }
      u.mapSys (fun y => { y with noPlacement := false })
    | none => t
  (commitKinds w).foldl (fun s k => (s.dropClaim 8 k).mapSys (fun y => { y with staged := sdel y.staged k })) t

/-- The reply of a COMMIT, or the transition that precedes it: with ARM to ARMED, with firmware to STANDBY. -/
def State.commitDone (s : State) (j : Job) (w : Nat) : State :=
  if w.testBit 8 then s.beginMove .armed (some j) else if w.testBit 0 then s.beginMove .standby (some j) else s.finish j .ok 0 []

/-- COMMIT carried out: R713, R467 and R691 first; a Tweed part begins its load and replies at its end. -/
def State.commit (s : State) (v : Via) (q : Request) : State :=
  let w := q.arg 0
  s.request v q (fun t => t.commitDemand v q) (fun t =>
    let j := jobOf q v [w, (t.sessionSecure v q.sess).toNat]
    if t.pairLost then t.answerTo v q .routeFault 0 []
    else if w / 8 % 8 ≠ 0 && !t.matches_ w then t.answerTo v q .noPlacement 0 []
    else if w.testBit 8 && w / 8 % 8 = 0 && !t.ready then t.answerTo v q .wrongMode 0 []
    else if w.testBit 2 && (t.tw.load.isSome || (tweedRegions (t.stagedImage 2)).any (fun r => t.clearing (clearRegion r))) then
      t.answerTo v q .busy 0 []
    else if !w.testBit 2 then ((t.begin j).applyParts w (t.sessionSecure v q.sess)).commitDone j w
    else
      let b := t.stagedImage 2
      let st := tweedHeader t.otp ((t.reg bTWC 0x020).getLsbD 0) b
      if st ≠ .ok then t.answerTo v q .rolledBack (st.code * 256 + 2) []
      else ((t.begin j).mapSys (fun y => { y with commit := some j })).startLoad
        { image := b, next := 0, passed := false, reload := false, cause := .ok, barred := none })

def execCommit (p : Port) (q : Request) (s : State) : Host.Outcome State Fault Refusal :=
  if q.op = 0x11 then .next (s.commit (.ring p) q) else .refused .illFormed

/-! ### Tweed frames and release (R425 to R429) -/

/-- The COMMIT behind a load is over, with a reply. -/
def State.endCommit (s : State) (st : Status) (detail : Nat) : State :=
  match s.sys.commit with
  | some j => (s.mapSys (fun y => { y with commit := none })).finish j st detail []
  | none => s

/-- R429: a rollback reload has failed at region `r` with a status: both hosts hear of it, and the COMMIT reports what failed first. -/
def State.reloadFailed (s : State) (r : Nat) (st cause : Status) : State :=
  (s.regate.event 0x0C r st bTWC).endCommit .rolledBack (cause.code * 256 + 2)

/-- Step 4 of R425 for a rollback reload: another session has claimed the fallback pins since. -/
def State.reloadBarred (s : State) (b : List Byte) : Bool :=
  match s.sys.commit with
  | some j => (s.pinsFree j.via j.sess b).isSome
  | none => false

/-- R429: after a failed load, the retained previous image is loaded where it covers; without one the COMMIT reports. -/
def State.loadFailed (s : State) (l : TweedLoad) (i : Nat) (st : Status) : State :=
  let t := s.failLoad l i st
  if l.reload then t.reloadFailed (frameAddr l.image i).1 st l.cause
  else match s.tw.previous with
    | some b =>
      if t.reloadBarred b then t.reloadFailed (((tweedRegions b).head?).getD 0) .resourceClaimed st
      else t.startLoad { image := b, next := 0, passed := false, reload := true, cause := st,
                         barred := if st = .multidrive then some (frameAddr l.image i).1 else none }
    | none => t.regate.endCommit st 0

/-- TWEED_FRAME: steps 5 to 7 and the write of one frame, with steps 8 and 9 after the last. -/
def State.tweedFrame (s : State) : State :=
  match s.tw.load with
  | none => s
  | some l =>
    if l.passed then s
    else
      let i := l.next
      let (r, k) := frameAddr l.image i
      let d := frameData l.image i
      let st := frameCheck l.image i (Config.muxOk k d)
      if st ≠ .ok then s.loadFailed l i st
      else
        let t := if l.barred = some r then s else s.putFrame r k d
        if i + 1 < tweedFrames l.image then t.mapTw (fun w => { w with load := some { l with next := i + 1 } })
        else
          let fin := tweedFinal s.otp l.image
          if fin ≠ .ok then t.loadFailed l i fin else t.mapTw (fun w => { w with load := some { l with next := i + 1, passed := true } })

def execTweedFrame (s : State) : Host.Outcome State Fault Refusal := .next s.tweedFrame

/-- REGION_RELEASE: the regions become ACTIVE, and the COMMIT goes on to its other parts, or reports its rollback. -/
def State.regionRelease (s : State) : State :=
  match s.tw.load with
  | none => s
  | some l =>
    if !l.passed then s
    else
      let t := s.releaseLoad l
      if l.reload then t.endCommit .rolledBack (l.cause.code * 256 + 2)
      else
        let t := t.mapTw (fun x => { x with previous := some l.image })
        match t.sys.commit with
        | some j =>
          let w := (j.args[0]?).getD 0
          ((t.mapSys (fun y => { y with commit := none })).applyParts w ((j.args[1]?).getD 0 == 1)).commitDone j w
        | none => t

def execRegionRelease (s : State) : Host.Outcome State Fault Refusal := .next s.regionRelease

/-- R634, R715: a fault interrupts a COMMIT of Tweed regions, which is rolled back; with no previous image to load it reports at once
(DEDUCED, log entry 76). -/
def State.abortCommit (s : State) : State :=
  match s.tw.load with
  | some l =>
    if l.reload || s.sys.commit.isNone then s
    else if s.tw.previous.isNone then (s.failLoad l l.next .uncorrectable).regate.endCommit .rolledBack (Status.uncorrectable.code * 256 + 2)
    else s.loadFailed l l.next .uncorrectable
  | none => s

/-! ### PLACE (R460, R467, R468) -/

/-- The images that a PLACE computes from. -/
def State.placeImage (s : State) (k : Nat) : List Byte :=
  if (s.stagedImage k).isEmpty then s.committedImage k else s.stagedImage k

/-- What a PLACE computes from, with its words and the logical rows in service. -/
def State.placeInput (s : State) (w0 w1 : Word) : PlaceInput :=
  let prog := s.placeImage 3
  { w0 := w0, w1 := w1, rows := lrows s.cv.failed, map := s.placeImage 4, stencilSec := progSection prog 3,
    keptSec := progSection prog 4 }

/-- PLACE: the sort begins on every tile in service. -/
def State.placeBegin (s : State) (v : Via) (q : Request) : State :=
  s.request v q (fun t =>
    { ver := 1, fields := q.len == 2 && placeWordsOk (q.word 0) (q.word 1),
      permit := match ([3, 4].filterMap (fun k => if (t.stagedImage k).isEmpty then none else t.heldBy v q.sess 8 k)).head? with
        | some d => (.resourceClaimed, d)
        | none => if !t.sessionSecure v q.sess && (List.range 256).any t.tileWorld then (.denied, 0) else (.ok, 0),
      mode := t.inModes [.configure], early := false }) (fun t =>
    let i := t.placeInput (q.word 0) (q.word 1)
    if t.sof.result.isSome then t.answerTo v q .busy 0 []
    else if (t.placeImage 3).isEmpty || (t.placeImage 4).isEmpty || !i.ok then t.answerTo v q .badParameter 0 []
    else
      let u := (t.begin (jobOf q v [])).mapCv (fun c => c.powerTiles (t.physSet t.inServiceTile) false)
      ({ u with sof := { u.sof with result := some i.solve } } : State).setReg bSOF 0 0x900000)

def execPlace (p : Port) (q : Request) (s : State) : Host.Outcome State Fault Refusal :=
  if q.op = 0x12 then .next (s.placeBegin (.ring p) q) else .refused .illFormed

/-- The PLACE under way. -/
def State.placeJob (s : State) : Option Job := (s.sys.pa.jobs ++ s.sys.pb.jobs).find? (fun j => j.op == 0x12)

/-- R460: the user area of every powered tile is unpredictable. -/
def State.sorted (s : State) : State :=
  let e := tilesPlane s.cv.power
  (s.freeField s.cv.power e 0 1904).freeField s.cv.power e 2048 1920

/-- PLACE_COMPLETE. -/
def State.placeDone (s : State) : State :=
  match s.sof.result with
  | none => s
  | some (r, reason, item, pc) =>
    let t : State := { s.sorted with sof := { s.sof with result := none } }
    match r with
    | some p =>
      let u : State := { t with sof := { t.sof with staged := some p } }
      (u.sofDone 1 .ok 0 0).finish? s.placeJob .ok 0 [p.tiles, p.xform]
    | none =>
      let u : State := { t with sof := { t.sof with failPostcode := BitVec.ofNat 24 pc } }
      (u.sofDone 1 .noPlacement reason item).finish? s.placeJob .noPlacement (reason * 256 + item) []

def execPlaceComplete (s : State) : Host.Outcome State Fault Refusal := .next s.placeDone

/-- R460, R715: a tile row fails during a PLACE, which ends with what its sort has left in the user area. -/
def State.abortPlace (s : State) : State :=
  match s.sof.result with
  | some _ => (({ s.sorted with sof := { s.sof with result := none } } : State).sofDone 1 .uncorrectable 0 0).finish? s.placeJob
      .uncorrectable 0 []
  | none => s

/-- R672: a core reset cuts the commands in progress, which end without a reply: a PLACE leaves what its sort has left (R460), and a COMMIT
of Tweed regions is rolled back (R634). -/
def State.cutCommands (s : State) : State :=
  let mute (h : HostPort) : HostPort := { h with jobs := h.jobs.map (fun j => { j with mute := true }) }
  (s.mapSys (fun y => { y with pa := mute y.pa, pb := mute y.pb })).abortPlace.abortCommit.endCommands

/-! ### GET_PLACEMENT (R474) -/

/-- The channels a placement holds: postcode, PE and bits. -/
def Placement.entries (p : Placement) : List (Nat × Entry) := p.tables.flatMap (fun t => t.2.map (fun e => (t.1, e)))

/-- Logical coordinates of a table entry. -/
def entryXY (t : Nat) (e : Entry) : Nat × Nat := (64 * (t % 16) + e.pe % 64, 64 * (t / 16) + e.pe / 64)

/-- A request of the row for a query; a query above 2 belongs to no row. -/
def placementRow (q : Request) (k : Nat) : Bool := q.op == 0x13 && (q.arg 0 == k || 2 < q.arg 0)

/-- Query 0: the report, whose items R474 gives and whose bytes the spec does not lay out (DESIGN CHOICE, log entry 30). -/
def State.placementReport (s : State) (v : Via) (q : Request) : State :=
  let b := s.reportBytes
  s.request v q (fun t => { (plainDemand 1 (q.len == 3 && q.arg 0 == 0 && q.addrOk 1)) with
                            permit := (t.dramFor v q.sess (q.addr 1) b.length, 0) }) (fun t =>
    if t.sof.effect.isNone then t.answerTo v q .noPlacement 0 []
    else (t.dwrite (q.addr 1) b).answerTo v q .ok 0 [BitVec.ofNat 24 b.length])

def execGetPlacementReport (p : Port) (q : Request) (s : State) : Host.Outcome State Fault Refusal :=
  if placementRow q 0 then .next (s.placementReport (.ring p) q) else .refused .illFormed

/-- Query 1: the PE, offset and width of a postcode. -/
def State.placementOf (s : State) (v : Via) (q : Request) : State :=
  s.request v q (fun _ => plainDemand 1 (q.len == 2 && q.arg 0 == 1)) (fun t =>
    match t.sof.effect with
    | none => t.answerTo v q .noPlacement 0 []
    | some p =>
      match p.entries.find? (fun e => e.2.postcode == q.arg 1) with
      | some (l, e) => t.answerTo v q .ok 0 ([(entryXY l e).1, (entryXY l e).2, e.off, e.width].map (BitVec.ofNat 24))
      | none => t.answerTo v q .badParameter 0 [])

def execGetPlacementPostcode (p : Port) (q : Request) (s : State) : Host.Outcome State Fault Refusal :=
  if placementRow q 1 then .next (s.placementOf (.ring p) q) else .refused .illFormed

/-- Query 2: the postcodes held at a PE. -/
def State.placementAt (s : State) (v : Via) (q : Request) : State :=
  s.request v q (fun _ => plainDemand 1 (q.len == 3 && q.arg 0 == 2 && q.arg 1 < 1024 && q.arg 2 < 1024)) (fun t =>
    match t.sof.effect with
    | none => t.answerTo v q .noPlacement 0 []
    | some p =>
      let l := (p.entries.filter (fun e => entryXY e.1 e.2 == (q.arg 1, q.arg 2))).map (fun e => e.2.postcode)
      t.answerTo v q .ok 0 ((l.length :: l).map (BitVec.ofNat 24)))

def execGetPlacementPe (p : Port) (q : Request) (s : State) : Host.Outcome State Fault Refusal :=
  if placementRow q 2 then .next (s.placementAt (.ring p) q) else .refused .illFormed

end Sys2Proof.Machine
end

