-- ==== Sys2Proof/Machine/LoadStore.lean ====
section
/-! DEFINITION. Loads and stores (R171 to R181), window accesses (R29), and the commands that are a load or store of one
system register. -/

namespace Sys2Proof.Machine

/-! ### Format M -/

/-- R165, R171, R172: the operand bits are those of a load or store; `cls` says which r it accepts. -/
def legalM (w : BitVec 40) (cls : Nat → Bool) : Bool :=
  cls (fRd w) && fMode w ≤ 4 && fld w 24 3 == 0 && (fMode w < 3 || fld w 4 20 == 0)

/-- R171: the address used. -/
def Seq.addrM (q : Seq) (w : BitVec 40) : Word := if fMode w = 0 then aGet q (fMA w) + fImm w else aGet q (fMA w)

/-- R171: the update of the base register. -/
def Seq.updateM (q : Seq) (w : BitVec 40) : Seq :=
  let a := aGet q (fMA w)
  let x := aGet q (fld w 0 4)
  match fMode w with
  | 1 => aSet q (fMA w) (a + fImm w)
  | 2 => aSet q (fMA w) (a - fImm w)
  | 3 => aSet q (fMA w) (a + x)
  | 4 => aSet q (fMA w) (a - x)
  | _ => q

/-- Registers a format M instruction reads for its address. -/
def srcsM (w : BitVec 40) : List Nat := (32 + fMA w) :: (if 3 ≤ fMode w then [32 + fld w 0 4] else [])

/-- The word addresses of an access of `n` words. -/
def wordsAt (a : Word) (n : Nat) : List Nat := (List.range n).map (fun i => (a.toNat + i) % 2 ^ 24)

/-- R176: what a trap 0x0D of an access records: its first reserved address. -/
def State.noteAccess (s : State) (as : List Nat) (wr : Bool) (c : Nat) : State :=
  if c = 0x0D then s.recordAccess ((as.find? (fun a => placeOf a == .reserved)).getD 0) wr .badParameter else s

/-- A window access begins (R29): the stream stalls until it completes. -/
def State.beginWindow (s : State) (op : Nat) (w : BitVec 40) : State :=
  s.mapSeq (fun q => { q with wait := .window op w, loaded := none, tl := q.tl || q.locked })

/-- R173, R174: the loaded words reach r, then the base is updated. -/
def Seq.loaded_ (q : Seq) (w : BitVec 40) (vs : List Word) : Seq :=
  if isAC (fRd w) then
    acTo (q.updateM w) (fRd w) ((vs[2]?).getD 0 ++ (vs[1]?).getD 0 ++ (vs[0]?).getD 0)
  else daSet (q.updateM w) (fRd w) ((vs[0]?).getD 0)

/-- A load of `n` words is carried out; `fin` retires the instruction. -/
def State.finishLoad (s : State) (w : BitVec 40) (n : Nat) (fin : State → State) : State :=
  let a := (s.seq.addrM w).toNat
  match s.loadWords a n with
  | (.ok, _, vs, t) => fin (t.mapSeq (fun q => q.loaded_ w vs))
  | (st, e, _, t) => ({ t with seq := s.seq }).accessTrap e false st

/-- The words a store moves. -/
def Seq.storeData (q : Seq) (w : BitVec 40) : List Word :=
  if isAC (fRd w) then (List.range 3).map (fun i => (acOf q (fRd w)).extractLsb' (24 * i) 24) else [daGet q (fRd w)]

/-- R244, R245: the context operations among the words a store writes, in the order of their addresses: whether it is a load, and
the address of its record. -/
def ctxOps (l : List (Nat × Word)) : List (Bool × Nat) :=
  (l.filter (fun e => e.1 == 0x40106 || e.1 == 0x40107)).map (fun e => (e.1 == 0x40107, fld e.2 0 19))

/-- A store is carried out; an error changes no memory (R177). `fin` retires the instruction. -/
def State.finishStore (s : State) (w : BitVec 40) (fin : State → State) : State :=
  let a := s.seq.addrM w
  let vs := s.seq.storeData w
  match s.storeWords a.toNat vs with
  | (.ok, _, t) =>
    match ctxOps ((wordsAt a vs.length).zip vs) with
    | [] => fin (t.mapSeq (fun q => q.updateM w))
    | ops => t.ctxStore s ops (fun q => q.updateM w)
  | (st, e, t) => ({ t with seq := s.seq, smem := s.smem, mem := s.mem }).accessTrap e true st

/-- A load of `n` words: from data memory or system registers in `n` cycles (R169), or through a window. -/
def State.loadM (s : State) (op n : Nat) (w : BitVec 40) (cls : Nat → Bool) : State :=
  let as (t : State) : List Nat := wordsAt (t.seq.addrM w) n
  s.instrNote (srcsM w) (fun t => if legalM w cls then (as t).flatMap t.loadCauses else [0x01])
    (fun c t => t.noteAccess (as t) false c) (fun t0 =>
      let t := if (as t0).contains 0x40003 then t0.untilTally else t0
      if (as t).any throughWindow then t.beginWindow op w
      else
        t.finishLoad w n (fun u => (u.retire n).mapSeq (fun q => { q with
          loaded := some (BitVec.ofNat 6 (fRd w)),
          dataAt := if (as t).any (fun a => placeOf a == .data) then t.cycle + n else q.dataAt })))

/-- A store of `n` words. -/
def State.storeM (s : State) (op n : Nat) (w : BitVec 40) (cls : Nat → Bool) : State :=
  let as (t : State) : List Nat := wordsAt (t.seq.addrM w) n
  s.instrNote (fRd w :: srcsM w) (fun t => if legalM w cls then (as t).flatMap t.storeCauses else [0x01])
    (fun c t => t.noteAccess (as t) true c) (fun t =>
      if (as t).any throughWindow then t.beginWindow op w
      else
        let u := t.finishStore w (fun x => x.retire n)
        u.mapSeq (fun q => { q with
          dataAt := if (as t).any (fun a => placeOf a == .data) then t.cycle + n else q.dataAt }))

/-- LD (R171). -/
def execLd (w : BitVec 40) (s : State) : Host.Outcome State Fault Refusal := .next (s.loadM 0x30 1 w isDA)
/-- ST (R171). -/
def execSt (w : BitVec 40) (s : State) : Host.Outcome State Fault Refusal := .next (s.storeM 0x31 1 w isDA)
/-- LDAC (R174). -/
def execLdac (w : BitVec 40) (s : State) : Host.Outcome State Fault Refusal := .next (s.loadM 0x32 3 w isAC)
/-- STAC (R174). -/
def execStac (w : BitVec 40) (s : State) : Host.Outcome State Fault Refusal := .next (s.storeM 0x33 3 w isAC)

/-- The NIs that the window access under way leads to. -/
def Seq.windowNis (q : Seq) : List Nat :=
  match q.wait with
  | .window op w => ((wordsAt (q.addrM w) (if op = 0x30 || op = 0x31 then 1 else 3)).filter throughWindow).map q.windowNi
  | _ => []

/-- Something on the way holds the window access (R559, R564, R566). -/
def State.windowHeld (s : State) : Bool := s.routed && s.seq.windowNis.any (fun n => s.wayHeld s.seq.ni n)

/-- WINDOW_ACCESS_COMPLETE (R29, R177): the access under way completes; the next instruction issues in this cycle. -/
def State.completeWindow (s : State) : State :=
  if s.windowHeld then s
  else match s.seq.wait with
  | .window op w =>
    let t := s.mapSeq (fun q => { q with wait := .none })
    let ok (u : State) : State := u.retire 0
    if op = 0x30 || op = 0x32 then t.finishLoad w (if op = 0x32 then 3 else 1) ok
    else t.finishStore w ok
  | _ => s

/-- R636: a window access already sent completes as the run stops, and its data is discarded. -/
def State.lastWindow (s : State) : State :=
  match s.seq.wait with
  | .window _ _ =>
    let t := s.completeWindow
    if t.seq.stopped then s else { s with mem := t.mem, regs := t.regs, free := t.free, noc := t.noc }
  | _ => s

def execWindowAccessComplete (s : State) : Host.Outcome State Fault Refusal := .next s.completeWindow

/-! ### Stores to one system register -/

/-- A store of `v` to the system register at `a`, by the instruction at PC. -/
def State.storeSys (s : State) (a : Nat) (f : State → State) : State := s.instr [] (fun t => t.seq.sysStoreCauses a) f

/-- SEQ_CTXSAVE_WRITE (R244). -/
def execSeqCtxsaveWrite (v : Word) (s : State) : Host.Outcome State Fault Refusal :=
  .next (s.storeSys 0x40106 (fun t => t.ctxStore t [(false, fld v 0 19)] id))
/-- SEQ_CTXLOAD_WRITE (R245). -/
def execSeqCtxloadWrite (v : Word) (s : State) : Host.Outcome State Fault Refusal :=
  .next (s.storeSys 0x40107 (fun t => t.ctxStore t [(true, fld v 0 19)] id))
/-- SEQ_ISET_WRITE. -/
def execSeqIsetWrite (v : Word) (s : State) : Host.Outcome State Fault Refusal :=
  .next (s.storeSys 0x40122 (fun t => (t.mapSeq (fun q => q.iset v)).retire 1))
/-- SEQ_RPTC_WRITE (R222): trap 0x0E. -/
def execSeqRptcWrite (_v : Word) (s : State) : Host.Outcome State Fault Refusal :=
  .next (s.storeSys 0x40004 (fun t => t))
/-- SEQ_TSTATE_WRITE (R264). -/
def execSeqTstateWrite (v : Word) (s : State) : Host.Outcome State Fault Refusal :=
  .next (s.storeSys 0x40110 (fun t => (t.mapSeq (fun q => q.writeTw v)).retire 1))
/-- SPILL_POINTER_WRITE (R243): SEQ_SPILLBASE, SEQ_SPILLLIMIT or SEQ_SPILLPTR for k = 0, 1, 2. -/
def execSpillPointerWrite (k : Fin 3) (v : Word) (s : State) : Host.Outcome State Fault Refusal :=
  .next (s.storeSys (0x40102 + k.val) (fun t => (t.mapSeq (fun q => q.pointerWrite k v)).retire 1))

/-! ### Loads of one system register -/

/-- A load of the system register at `a` into the D or A register `r`. -/
def State.loadSys (s : State) (a : Nat) (r : BitVec 6) (before : State → State) : State :=
  s.instr [] (fun _ => if isDA r.toNat then [] else [0x01]) (fun t0 =>
    let t := before t0
    let v := t.sysLoad a
    (((t.latchHigh a).mapSeq (fun q => daSet q r.toNat v)).retire 1).mapSeq (fun q => { q with loaded := some r }))

/-- SEQ_CYCLO_LOAD (R225). -/
def execSeqCycloLoad (r : BitVec 6) (s : State) : Host.Outcome State Fault Refusal := .next (s.loadSys 0x40005 r id)
/-- SEQ_PMLO_LOAD (R225). -/
def execSeqPmloLoad (r : BitVec 6) (s : State) : Host.Outcome State Fault Refusal := .next (s.loadSys 0x40007 r id)
/-- SEQ_TALLY_LOAD (R113, R114). -/
def execSeqTallyLoad (r : BitVec 6) (s : State) : Host.Outcome State Fault Refusal :=
  .next (s.loadSys 0x40003 r State.untilTally)

end Sys2Proof.Machine
end

