-- ==== Sys2Proof/Machine/Commands.lean ====
section
/-! DEFINITION. HELLO, GET_INFO, LOAD_PARAMS, budgets, runs, mailbag reads, probes, claims (13, 14, 16). -/

namespace Sys2Proof.Machine

/-! ### HELLO and GET_INFO (R628, R632, R748) -/

/-- HELLO: BUSY while another command of the port is in progress. -/
def State.helloCmd (s : State) (v : Via) (q : Request) : State :=
  s.request v q (fun _ => plainDemand 1 (q.len == 1 && 1 ≤ q.arg 0 && q.arg 0 < 16)) (fun t =>
    if (t.port v.port).jobs.any (fun j => j.via == v) then t.answerTo v q .busy 0 []
    else
      let n := min (q.arg 0) 3
      (t.setAgreed v n).answerTo v q .ok 0 [BitVec.ofNat 24 n, Config.fwVersion t.sys.mFw, seqId])

def execHello (p : Port) (q : Request) (s : State) : Host.Outcome State Fault Refusal :=
  if q.op = 0x01 then .next (s.helloCmd (.ring p) q) else .refused .illFormed

/-- A request of the row for a selector; a selector above 2 belongs to no row. -/
def infoRow (q : Request) (k : Nat) : Bool := q.op == 0x02 && (q.arg 0 == k || 2 < q.arg 0)

/-- The payload of GET_INFO: selector 0 (R748), 1 and 2 (R632, R633). -/
def State.info (s : State) (v : Via) (k : Nat) : List Word :=
  if k = 0 then
    packBytes (leBytes 16 s.otp.ident.toNat)
      ++ [BitVec.ofNat 24 s.otp.lifecycle, BitVec.ofNat 24 (portIdx v.port), BitVec.ofNat 24 (s.rfld bRST 1 2 1)]
  else if k = 1 then ([(1, 1), (1, 2), (1, 2), (1, 2), (1, 2)] : List (Nat × Nat)).map (fun e => BitVec.ofNat 24 (e.1 * 4096 + e.2))
  else [BitVec.ofNat 24 s.sys.mode.code, s.regValue bCGM 0, s.regValue bSOF 1, s.regValue bMCU 0]

def State.getInfo (s : State) (v : Via) (q : Request) : State :=
  s.request v q (fun _ => plainDemand 1 (q.len == 1 && q.arg 0 < 3)) (fun t => t.answerTo v q .ok 0 (t.info v (q.arg 0)))

def execGetInfoIdentity (p : Port) (q : Request) (s : State) : Host.Outcome State Fault Refusal :=
  if infoRow q 0 then .next (s.getInfo (.ring p) q) else .refused .illFormed
def execGetInfoFormats (p : Port) (q : Request) (s : State) : Host.Outcome State Fault Refusal :=
  if infoRow q 1 then .next (s.getInfo (.ring p) q) else .refused .illFormed
def execGetInfoState (p : Port) (q : Request) (s : State) : Host.Outcome State Fault Refusal :=
  if infoRow q 2 then .next (s.getInfo (.ring p) q) else .refused .illFormed

/-! ### LOAD_PARAMS (R148, R461, R635) -/

/-- The logical tiles that the bitmap in words 5 to 15 selects, ascending. -/
def paramTiles (q : Request) : List Nat := (List.range 256).filter (fun i => (q.word (5 + i / 24)).getLsbD (i % 24))

/-- The 512-byte blocks of one tile, as planes. -/
def tilePlanes (n : Nat) (b : List Byte) : List (BitVec 4096) :=
  (List.range n).map (fun i => BitVec.ofNat 4096 (leNat ((b.drop (512 * i)).take 512)))

/-- The image of a logical tile in one copy takes planes from a bit address. -/
def SortCopy.imagePut (c : SortCopy) (l first : Nat) (ps : List (BitVec 4096)) : SortCopy :=
  { c with images := (ps.zipIdx).foldl (fun m e => sput 0 m (4096 * l + first + e.2) e.1) c.images }

/-- R461, R578: the image is written in both stacks. -/
def State.imagePut (s : State) (l first : Nat) (ps : List (BitVec 4096)) : State :=
  { s.objectsWritten (fun a => imageAddr l ≤ a && a < imageAddr (l + 1)) with
    sof := { s.sof with lower := s.sof.lower.imagePut l first ps, upper := s.sof.upper.imagePut l first ps } }

/-- Planes written into a physical tile at once; each write is an access to its bit-rows (R64, R68). -/
def State.planesPut (s : State) (t first : Nat) (ps : List (BitVec 4096)) : State :=
  (ps.zipIdx).foldl (fun s e => (s.eccAccess (BitVec.ofNat 272 (2 ^ t)) (first + e.2)).mapCv (fun c => { c with
    mem := pset c.mem (first + e.2) (tilePut (pget c.mem (first + e.2)) t e.1),
    flips := c.flips.filter (fun f => !(f.tile == t && f.addr == first + e.2)) })) s

/-- R669: the change of M_PARAM joins the run's record. -/
def State.chainParam (s : State) : State := s.chain (fun r => { r with mParam := chained r.mParam s.mParam s.postmark })

/-- A tile's write is complete. -/
def State.paramDone (s : State) (l first : Nat) (ps : List (BitVec 4096)) : State := (s.imagePut l first ps).chainParam

/-- The physical tile of a logical tile that is powered and zeroed; none where only the image takes the planes. -/
def State.liveTile (s : State) (l : Nat) : Option Nat :=
  match physTile s.cv.failed l with
  | some t => if s.cv.power.getLsbD t && !s.cv.zeroing.getLsbD t then some t else none
  | none => none

/-- What bars a tile from a session's LOAD_PARAMS. -/
def State.paramBar (s : State) (secure : Bool) (l : Nat) : Status :=
  if !s.inServiceTile l then .badParameter
  else if s.tileWorld l && !secure then .denied
  else if s.clearing (clearTile l) then .busy
  else .ok

/-- One selected tile: its part's status, or the side writes that wait for it in RUN. -/
def State.paramTile (s : State) (secure : Bool) (addr first n k l : Nat) : Option Status × State :=
  let bar := s.paramBar secure l
  if bar ≠ .ok then (some bar, s)
  else
    let (st, b, t) := s.dramRead (addr + 512 * n * k) (512 * n)
    if st ≠ .ok then (some st, t)
    else
      let ps := tilePlanes n b
      match t.liveTile l with
      | none => (some .ok, t.paramDone l first ps)
      | some x =>
        if t.sys.mode = .run then
          (none, (t.mapCv (fun c => { c with side := c.side ++ (ps.zipIdx).map (fun e => ⟨x, true, first + e.2, e.1⟩) })).mapSys
            (fun y => { y with params := y.params.map (fun m => { m with waiting := m.waiting ++ [(l, first, ps)] }) }))
        else (some .ok, (t.planesPut x first ps).paramDone l first ps)

/-- A part's result joins the command's. -/
def State.paramNote (s : State) (l : Nat) (st : Option Status) : State :=
  match st with
  | some e => s.mapSys (fun y => { y with params := y.params.map (fun m => { m with done := m.done ++ [(l, e)] }) })
  | none => s

/-- The reply, once no tile waits. -/
def State.paramsEnd (s : State) : State :=
  match s.sys.params with
  | none => s
  | some m =>
    if !m.waiting.isEmpty then s
    else
      let r := (List.range 256).filterMap (fun l => (m.done.find? (fun e => e.1 == l)))
      (s.mapSys (fun y => { y with params := none })).finish m.job (partsStatus r).1 (partsStatus r).2
        (partsPayload m.job.w0 r [])

/-- The side writes of a tile still in the queue. -/
def State.sideLeft (s : State) (e : Nat × Nat × List (BitVec 4096)) : Nat :=
  match physTile s.cv.failed e.1 with
  | none => 0
  | some t => (s.cv.side.filter (fun d => d.write && d.tile == t && e.2.1 ≤ d.addr && d.addr < e.2.1 + e.2.2.length)).length

/-- Tiles whose side writes have all taken place are complete. -/
def State.paramsPoll (s : State) : State :=
  match s.sys.params with
  | none => s
  | some m =>
    let fin := m.waiting.filter (fun e => s.sideLeft e == 0)
    let t := s.mapSys (fun y => { y with params := some { m with waiting := m.waiting.filter (fun e => s.sideLeft e != 0) } })
    (fin.foldl (fun s e => (s.paramDone e.1 e.2.1 e.2.2).paramNote e.1 (some .ok)) t).paramsEnd

def State.loadParams (s : State) (v : Via) (q : Request) : State :=
  let first := q.arg 0
  let n := q.arg 1
  s.request v q (fun t =>
    { ver := 1,
      fields := q.len == 16 && 1 ≤ n && n ≤ 64 && q.addrOk 2 && q.arg 15 < 65536
        && (List.range n).all (fun i => t.keptPlanes.contains (first + i)),
      permit := (t.dramFor v q.sess (q.addr 2) (512 * n * (paramTiles q).length), 0),
      mode := t.inModes [.configure, .armed, .run], early := false }) (fun t =>
    if t.sof.result.isSome || t.sys.params.isSome then t.refuse v q .busy 0
    else
      let j := jobOf q v []
      let u := (t.begin j).mapSys (fun y => { y with params := some { job := j, count := n, done := [], waiting := [] } })
      let u := ((paramTiles q).zipIdx).foldl (fun s e =>
        let (st, w) := s.paramTile (s.sessionSecure v q.sess) (q.addr 2) first n e.2 e.1
        w.paramNote e.1 st) u
      u.paramsEnd)

def execLoadParams (p : Port) (q : Request) (s : State) : Host.Outcome State Fault Refusal :=
  if q.op = 0x14 then .next (s.loadParams (.ring p) q) else .refused .illFormed

/-- LOAD_PARAMS_TIMEOUT: tiles not yet begun keep their old planes and report TIMEOUT. -/
def State.paramsTimeout (s : State) : State :=
  match s.sys.params with
  | none => s
  | some m =>
    let idle (e : Nat × Nat × List (BitVec 4096)) : Bool := s.sideLeft e == m.count
    let out := m.waiting.filter idle
    let t := s.mapCv (fun c => { c with side := c.side.filter (fun d =>
      !(d.write && out.any (fun e => physTile s.cv.failed e.1 == some d.tile && e.2.1 ≤ d.addr && d.addr < e.2.1 + m.count))) })
    let t := t.mapSys (fun y => { y with params := some { m with
      waiting := m.waiting.filter (fun e => !idle e), done := m.done ++ out.map (fun e => (e.1, .timeout)) } })
    t.paramsPoll

def execLoadParamsTimeout (s : State) : Host.Outcome State Fault Refusal := .next s.paramsTimeout

/-! ### Budgets (R519 to R522, R632) -/

/-- The budget that three words spell. -/
def grantOf (q : Request) (secure : Bool) : Budget :=
  { allow := q.arg 0, window := q.arg 1, cap := fld (q.word 2) 0 9, ceil := fld (q.word 2) 9 2, policy := fld (q.word 2) 11 2,
    secure := secure }

/-- A grant's fields are in their ranges (R519). -/
def grantOk (q : Request) : Bool :=
  let b := grantOf q false
  q.len == 3 && q.arg 2 < 2 ^ 13 && 1 ≤ b.allow && b.window ≤ 10000 && 1 ≤ b.cap && b.cap ≤ 360 && b.ceil < 3 && 1 ≤ b.policy

def State.budgetGrant (s : State) (v : Via) (q : Request) : State :=
  s.request v q (fun t =>
    { ver := 2, fields := grantOk q,
      permit := (if t.frk.secured && !t.sessionSecure v q.sess then .denied else .ok, 0), mode := true, early := false }) (fun t =>
    let sec := t.sessionSecure v q.sess
    let b := grantOf q sec
    let u := t.mapFrk (fun f => { f with secured := f.secured || sec })
    (if u.sys.mode = .run then u.mapFrk (fun f => { f with next := some b }) else u.useBudget b).answerTo v q .ok 0 [])

def execBudgetGrant (p : Port) (q : Request) (s : State) : Host.Outcome State Fault Refusal :=
  if q.op = 0x20 then .next (s.budgetGrant (.ring p) q) else .refused .illFormed

/-- A request of the row for a query; a query above 1 belongs to no row. -/
def budgetRow (q : Request) (k : Nat) : Bool := q.op == 0x21 && (q.arg 0 == k || 1 < q.arg 0)

/-- The three words of the budget in effect; R522 before any grant. -/
def budgetWords (b : Option Budget) : List Word :=
  match b with
  | some b => [BitVec.ofNat 24 b.allow, BitVec.ofNat 24 b.window, BitVec.ofNat 24 (b.cap + b.ceil * 2 ^ 9 + b.policy * 2 ^ 11)]
  | none => [0, 0, BitVec.ofNat 24 (2 * 2 ^ 9 + 3 * 2 ^ 11)]

/-- The ledger (R512, R632): energies in mJ, the mean Tj in 1/16 degrees, one saturating word each (DEDUCED, log entry 32). -/
def State.ledger (s : State) : List Word :=
  let f := s.frk
  budgetWords f.budget
    ++ [f.left, sat24 (f.run / 100000), sat24 (f.charged / 100000), sat24 f.skipped, s.reg bFRK 8, sat24 f.bins.sum,
        ofInt 24 (if f.tjCount = 0 then 0 else f.tjSum / f.tjCount), sat24 f.hours]
    ++ (List.range 8).map (fun i => sat24 (sget 0 f.rails i / 100000))

def State.queryLedger (s : State) (v : Via) (q : Request) : State :=
  s.request v q (fun _ => plainDemand 2 (q.len == 1 && q.arg 0 == 0)) (fun t => t.answerTo v q .ok 0 t.ledger)

def execBudgetQueryLedger (p : Port) (q : Request) (s : State) : Host.Outcome State Fault Refusal :=
  if budgetRow q 0 then .next (s.queryLedger (.ring p) q) else .refused .illFormed

/-- Query 1: predicted and measured mJ of the section with an ID. -/
def State.querySection (s : State) (v : Via) (q : Request) : State :=
  s.request v q (fun _ => plainDemand 2 (q.len == 2 && q.arg 0 == 1)) (fun t =>
    match t.energies.findIdx? (fun e => e.id == q.arg 1) with
    | none => t.answerTo v q .badParameter 0 []
    | some i => t.answerTo v q .ok 0 [sat24 (sget 0 t.frk.forecast i / (100 * watt)), sat24 (sget 0 t.frk.sections i / 100000)])

def execBudgetQuerySection (p : Port) (q : Request) (s : State) : Host.Outcome State Fault Refusal :=
  if budgetRow q 1 then .next (s.querySection (.ring p) q) else .refused .illFormed

/-! ### RUN_START and RUN_STOP (R524, R636) -/

/-- What refuses a RUN_START that R625 and R656 let pass. -/
def State.runBar (s : State) : Status :=
  if lrows s.cv.failed = 0 then .wrongMode
  else if s.sys.noPlacement then .noPlacement
  else if s.sys.jtagLock then .wrongMode
  else if s.sys.accepted.isSome then .busy
  else if s.overBudget then .overBudget
  else .ok

def State.runStart (s : State) (v : Via) (q : Request) : State :=
  s.request v q (fun t => { ver := 1, fields := q.len == 1, permit := (.ok, 0), mode := t.inModes [.armed], early := true })
    (fun t =>
      if t.runBar ≠ .ok then t.answerTo v q t.runBar 0 []
      else (t.mapSys (fun y => { y with accepted := some (q.word 0) })).answerTo v q .ok 0 [])

def execRunStart (p : Port) (q : Request) (s : State) : Host.Outcome State Fault Refusal :=
  if q.op = 0x30 then .next (s.runStart (.ring p) q) else .refused .illFormed

def State.runStop (s : State) (v : Via) (q : Request) : State :=
  s.request v q (fun t => { ver := 1, fields := q.len == 0, permit := (.ok, 0), mode := t.inModes [.armed, .run], early := false })
    (fun t =>
      if t.sys.mode = .armed then (t.mapSys (fun y => { y with accepted := none })).answerTo v q .ok 0 []
      else (t.begin (jobOf q v [])).mapSys (fun y => { y with stopping := some (jobOf q v []) }))

def execRunStop (p : Port) (q : Request) (s : State) : Host.Outcome State Fault Refusal :=
  if q.op = 0x31 then .next (s.runStop (.ring p) q) else .refused .illFormed

/-- RUN_STOP_EFFECT: the stop takes effect, unless a fault has ended the run before it, and the RUN_STOP replies. -/
def State.runStopped (s : State) : State :=
  match s.sys.stopping with
  | none => s
  | some j =>
    let t := s.mapSys (fun y => { y with stopping := none })
    (if t.sys.mode = .run then t.lastWindow.stopRun .ok else t).finish j .ok 0 []

def execRunStopEffect (s : State) : Host.Outcome State Fault Refusal := .next s.runStopped

/-! ### CAPTURE_READ (R592 to R596, R632) -/

/-- The records of a mailbag's ring from `rd`, `n` of them: status, bytes and the state after. -/
def State.bagRead (s : State) (base size rd n : Nat) : Status × List Byte × State :=
  match n with
  | 0 => (.ok, [], s)
  | k + 1 =>
    match s.dramRead (base + 16 * (rd % size)) 16 with
    | (.ok, b, t) =>
      let (st, l, u) := t.bagRead base size (rd + 1) k
      (st, b ++ l, u)
    | (st, _, t) => (st, [], t)

def State.captureRead (s : State) (p : Port) (q : Request) : State :=
  let v := Via.ring p
  let k := q.arg 0
  let at_ := q.arg 2
  s.request v q (fun t =>
    { ver := 1,
      fields := q.len == 3 && k < 16 && 1 ≤ q.arg 1 && q.arg 1 ≤ 12288 && at_ % 4 == 0 && 0x34000 ≤ at_
        && at_ + 4 * q.arg 1 ≤ 0x40000,
      permit := (t.needs v q.sess 2 k, match t.heldBy v q.sess 2 k with | some d => d | none => 0), mode := true,
      early := false }) (fun t =>
    let (base, size) := t.ringOf k
    let rd := t.rfld bMBG (0x030 + k) 0 24 % size
    let n := min (q.arg 1) (((t.reg bMBG (0x020 + k)).toNat + size - rd) % size)
    match t.dramBar (t.sessionSecure v q.sess) base (16 * size) with
    | some e => t.answerTo v q e 0 []
    | none =>
      let (st, b, u) := t.bagRead base size rd n
      if st ≠ .ok then u.answerTo v q st 0 []
      else
        let w := (u.putRaw (portIdx p) at_ (containers b)).setReg bMBG (0x030 + k) (BitVec.ofNat 24 ((rd + n) % size))
        (w.mailbagFill k).answerTo v q .ok 0 [BitVec.ofNat 24 n, BitVec.ofNat 24 ((rd + n) % size)])

def execCaptureRead (p : Port) (q : Request) (s : State) : Host.Outcome State Fault Refusal :=
  if q.op = 0x32 then .next (s.captureRead p q) else .refused .illFormed

/-! ### Probes (R555 to R557, R585) -/

/-- A probe gives its trace bank back to the bank's previous owner. -/
def State.giveBank (s : State) (i : Nat) : State :=
  let x := s.probe i
  if x.bank < 64 && s.owner x.bank = 0x30 + i then
    (s.setRfld bPH (0x100 + x.bank) 0 8 x.prev).setProbe i { x with bank := 64, prev := 0 }
  else s

/-- The probe that a PROBE_SET asks for, before it takes a bank. -/
def probeOf (q : Request) : Probe :=
  { Probe.off with
    mode := fld (q.word 0) 4 2, router := fld (q.word 1) 0 6, port := fld (q.word 1) 6 3, cls := fld (q.word 1) 9 3,
    kinds := fld (q.word 1) 12 6, src := fld (q.word 2) 0 7, anySrc := (q.word 2).getLsbD 7, dst := fld (q.word 2) 8 7,
    anyDst := (q.word 2).getLsbD 15 }

/-- Fields of PROBE_SET: filters name an NI; a trace mode names a bank. -/
def probeOk (q : Request) : Bool :=
  let x := probeOf q
  q.len == 4 && q.arg 0 < 64 && q.arg 1 < 2 ^ 18 && q.arg 2 < 2 ^ 16 && (x.anySrc || x.src < 111) && (x.anyDst || x.dst < 111)
    && (x.mode < 2 || q.arg 3 < 64)

/-- The claims of PROBE_SET: the probe, and in a trace mode the bank, which no other probe owns; banks 0 and 1 keep their owners (R608). -/
def State.probePermit (s : State) (v : Via) (q : Request) : Status × Nat :=
  let i := fld (q.word 0) 0 4
  let b := q.arg 3
  let held (c k : Nat) : Status × Nat := (s.needs v q.sess c k, match s.heldBy v q.sess c k with | some d => d | none => 0)
  if (held 1 i).1 ≠ .ok then held 1 i
  else if (probeOf q).mode < 2 then (.ok, 0)
  else if (held 0 b).1 ≠ .ok then held 0 b
  else if b < 2 || (0x30 ≤ s.owner b && s.owner b ≠ 0x30 + i) then (.denied, 0)
  else (.ok, 0)

def State.probeSet (s : State) (v : Via) (q : Request) : State :=
  let i := fld (q.word 0) 0 4
  s.request v q (fun t => { ver := 1, fields := probeOk q, permit := t.probePermit v q, mode := true, early := false }) (fun t =>
    let x := probeOf q
    let old := t.probe i
    let u :=
      if x.mode < 2 then t.setProbe i { x with bank := old.bank, prev := old.prev }
      else
        let t1 := if old.bank = q.arg 3 then t else t.giveBank i
        let prev := if old.bank = q.arg 3 then old.prev else t1.owner (q.arg 3)
        (t1.setRfld bPH (0x100 + q.arg 3) 0 8 (0x30 + i)).setProbe i { x with bank := q.arg 3, prev := prev }
    u.answerTo v q .ok 0 [])

def execProbeSet (p : Port) (q : Request) (s : State) : Host.Outcome State Fault Refusal :=
  if q.op = 0x40 then .next (s.probeSet (.ring p) q) else .refused .illFormed

/-- A 48-bit count as two words. -/
def words48 (n : Nat) : List Word := [BitVec.ofNat 24 n, BitVec.ofNat 24 (n / 2 ^ 24)]

def State.probeRead (s : State) (v : Via) (q : Request) : State :=
  let i := fld (q.word 0) 0 4
  s.request v q (fun t =>
    { ver := 1, fields := q.len == 1 && q.arg 0 < 32,
      permit := (t.needs v q.sess 1 i, match t.heldBy v q.sess 1 i with | some d => d | none => 0), mode := true, early := false })
    (fun t =>
      let x := t.probe i
      let u := if (q.word 0).getLsbD 4 then t.setProbe i { x with packets := 0, flits := 0, loss := 0 } else t
      u.answerTo v q .ok 0 (words48 x.packets ++ words48 x.flits ++ [BitVec.ofNat 24 x.wpos, sat24 x.loss]))

def execProbeRead (p : Port) (q : Request) (s : State) : Host.Outcome State Fault Refusal :=
  if q.op = 0x41 then .next (s.probeRead (.ring p) q) else .refused .illFormed

/-! ### CLAIM and RELEASE (R639, R640) -/

/-- How many indices a class has. -/
def classSize (c : Nat) : Nat := (([64, 16, 16, 16, 4, 8, 1, 16, 5] : List Nat)[c]?).getD 0

def claimOk (q : Request) : Bool := q.len == 2 && q.arg 1 < classSize (q.arg 0)

/-- What refuses a claim on a resource that no other session holds. -/
def State.claimBar (s : State) (p : Port) (secure : Bool) (c i : Nat) : Status :=
  if c = 0 && (s.owner i ≠ ownHost p || (s.bankWorld i && !secure)) then .denied
  else if c = 7 then
    match s.region i with
    | none => .denied
    | some (_, _, sec) => if sec && !secure then .denied else .ok
  else .ok

def State.claim (s : State) (p : Port) (q : Request) : State :=
  let v := Via.ring p
  let c := q.arg 0
  let i := q.arg 1
  s.request v q (fun t =>
    { ver := 1, fields := claimOk q,
      permit := match t.heldBy v q.sess c i with
        | some d => (.resourceClaimed, d)
        | none => (if t.holds v q.sess c i then .ok else t.claimBar p (t.sessionSecure v q.sess) c i, 0),
      mode := true, early := false }) (fun t => (t.addClaim v q.sess c i).answerTo v q .ok 0 [])

def execClaim (p : Port) (q : Request) (s : State) : Host.Outcome State Fault Refusal :=
  if q.op = 0x50 then .next (s.claim p q) else .refused .illFormed

/-- R640: a released probe goes off, a trace bank returns to its previous owner, a staged image is discarded; other resources keep their
settings. -/
def State.release (s : State) (c i : Nat) : State :=
  let t := s.dropClaim c i
  if c = 0 then
    (List.range 16).foldl (fun s k => if (s.probe k).bank = i then s.giveBank k else s) t
  else if c = 1 then (t.giveBank i).setProbe i Probe.off
  else if c = 8 then t.mapSys (fun y => { y with staged := sdel y.staged i })
  else t

/-- Every claim that satisfies `p` is released. -/
def State.releaseAll (s : State) (p : Claim → Bool) : State :=
  (s.sys.claims.filter p).foldl (fun s c => s.release c.cls c.idx) s

def State.releaseCmd (s : State) (v : Via) (q : Request) : State :=
  s.request v q (fun t =>
    { ver := 1, fields := claimOk q, permit := (if t.holds v q.sess (q.arg 0) (q.arg 1) then .ok else .denied, 0), mode := true,
      early := false }) (fun t => (t.release (q.arg 0) (q.arg 1)).answerTo v q .ok 0 [])

def execRelease (p : Port) (q : Request) (s : State) : Host.Outcome State Fault Refusal :=
  if q.op = 0x51 then .next (s.releaseCmd (.ring p) q) else .refused .illFormed

end Sys2Proof.Machine
end

