-- ==== Sys2Proof/Machine/Sessions.lean ====
section
/-! DEFINITION. Sessions, attestation, WIPE, LIFECYCLE, RESET, SELFTEST, READBACK, the fallback serial ports and unlisted
opcodes (10, 16, 17, 18). -/

namespace Sys2Proof.Machine

/-! ### SESSION_OPEN (R629, R630, R652) -/

/-- A request of the row for an op; an op above 3 belongs to no row. -/
def sessionRow (q : Request) (k : Nat) : Bool := q.op == 0x60 && (q.arg 0 == k || 3 < q.arg 0)

/-- The first number from `x` on, of 1 to 4,095 in a circle, that no session of the port has: which free number the module gives is
open (DESIGN CHOICE, log entry 33). -/
def State.freshSession (s : State) (p : Port) (x : Nat) : Nat :=
  (((List.range 4095).map (fun i => 1 + (x + i) % 4095)).find? (fun n => !(s.port p).sessions.any (fun e => e.1 == n))).getD 0

/-- A session opens and its number is the reply; BUSY when the port holds 16. -/
def State.openSession (s : State) (p : Port) (secure : Bool) (q : Request) : State :=
  if 16 ≤ (s.port p).sessions.length then s.answerTo (.ring p) q .busy 0 []
  else
    let n := s.freshSession p (s.freeBits 12).toNat
    (s.drawn.setSessions p ((s.port p).sessions ++ [(n, secure)])).answerTo (.ring p) q .ok 0 [BitVec.ofNat 24 n]

def State.sessionNonsecure (s : State) (p : Port) (q : Request) : State :=
  s.request (.ring p) q (fun _ => plainDemand 3 (q.len == 1 && q.arg 0 == 0)) (fun t => t.openSession p false q)

def execSessionOpenNonsecure (p : Port) (q : Request) (s : State) : Host.Outcome State Fault Refusal :=
  if sessionRow q 0 then .next (s.sessionNonsecure p q) else .refused .illFormed

/-- Op 1: a 32-byte nonce replaces the one the port holds. -/
def State.sessionChallenge (s : State) (p : Port) (q : Request) : State :=
  s.request (.ring p) q (fun _ => plainDemand 3 (q.len == 1 && q.arg 0 == 1)) (fun t =>
    let n := t.freeBits 256
    (t.drawn.mapPort p (fun h => { h with nonce := some n })).answerTo (.ring p) q .ok 0 (packBytes (leBytes 32 n.toNat)))

def execSessionOpenChallenge (p : Port) (q : Request) (s : State) : Host.Outcome State Fault Refusal :=
  if sessionRow q 1 then .next (s.sessionChallenge p q) else .refused .illFormed

/-- A session of a port closes, and its claims are released (DEDUCED, log entry 34). -/
def State.closeSession (s : State) (p : Port) (n : Nat) : State :=
  (s.releaseAll (fun c => c.port == some p && c.sess == n)).setSessions p ((s.port p).sessions.filter (fun e => e.1 != n))

def State.sessionClose (s : State) (p : Port) (q : Request) : State :=
  s.request (.ring p) q (fun t => plainDemand 3 (q.len == 2 && q.arg 0 == 2
      && (t.port p).sessions.any (fun e => e.1 == q.arg 1))) (fun t =>
    (t.closeSession p (q.arg 1)).answerTo (.ring p) q .ok 0 [])

def execSessionClose (p : Port) (q : Request) (s : State) : Host.Outcome State Fault Refusal :=
  if sessionRow q 2 then .next (s.sessionClose p q) else .refused .illFormed

/-- The lifecycle states that accept host keys; the others but RETIRED accept service keys (R652). -/
def Otp.hostClass (o : Otp) : Bool := o.lifecycle == 1 || o.lifecycle == 2
def Otp.serviceClass (o : Otp) : Bool := o.lifecycle == 0 || o.lifecycle == 3

/-- The key behind an index, unless its slot is empty or revoked. -/
def Otp.sessionKey (o : Otp) (i : Nat) : Option (BitVec 256) :=
  if i < 8 then
    if o.revokedHost.contains i then none else (o.hostKeys.find? (fun e => e.1 == i)).map (·.2)
  else if o.revokedService.contains (i - 8) then none else some (Config.serviceKey (i - 8))

/-- R630, R652: the outcome of an op 3 against the nonce that the port held. -/
def State.keyCheck (s : State) (p : Port) (q : Request) : Status :=
  let i := q.arg 1
  match (s.port p).nonce with
  | none => .badSignature
  | some n =>
    if !(if i < 8 then s.otp.hostClass else s.otp.serviceClass) then .lifecycle
    else match s.otp.sessionKey i with
      | none => .badSignature
      | some k =>
        let m := digestBytes (Config.sha512 (leBytes 32 n.toNat ++ leBytes 16 s.otp.ident.toNat ++ [BitVec.ofNat 8 (portIdx p)]))
        if Config.edVerify k m (BitVec.ofNat 512 (leNat (unpackBytes 64 (q.words.drop 2)))) then .ok else .badSignature

/-- Op 3: every outcome past step 5 of R625 spends the nonce. -/
def State.sessionSecureOpen (s : State) (p : Port) (q : Request) : State :=
  if !s.interprets (.ring p) then s
  else
    let (ok, t) := s.takePacket p q
    let c := t.check (.ring p) q (plainDemand 3 (q.len == 24 && q.arg 0 == 3 && q.arg 1 < 12))
    let spent := t.mapPort p (fun h => { h with nonce := none })
    if !ok then t
    else if t.check5 (.ring p) q 3 ≠ .ok || q.arg 0 ≠ 3 then t.answerTo (.ring p) q c.1 c.2 []
    else if c.1 ≠ .ok then spent.answerTo (.ring p) q c.1 c.2 []
    else if t.keyCheck p q ≠ .ok then spent.answerTo (.ring p) q (t.keyCheck p q) 0 []
    else spent.openSession p true q

def execSessionOpenSecure (p : Port) (q : Request) (s : State) : Host.Outcome State Fault Refusal :=
  if sessionRow q 3 then .next (s.sessionSecureOpen p q) else .refused .illFormed

/-! ### ATTEST and SEAL_RUN (R667 to R669) -/

/-- The run that a report describes when none has begun: zeros. -/
def RunRecord.none : RunRecord where
  number := 0
  first := 0
  last := 0
  open_ := false
  tl := false
  degraded := false
  mTweed := 0
  mPlace := 0
  mProg := 0
  mParam := 0
  mFw := 0
  mPatch := 0
  mWorld := 0

/-- The measurements in effect, over the run's own facts. -/
def State.inEffect (s : State) (r : RunRecord) : RunRecord :=
  { r with mTweed := s.mTweed, mPlace := s.mPlace, mProg := s.mProg, mParam := s.mParam, mFw := s.sys.mFw, mPatch := s.mPatch,
           mWorld := s.mWorld }

/-- Bytes 0x000 to 0x21F of a report. -/
def State.reportBody (s : State) (kind : Nat) (nonce : List Byte) (r : RunRecord) : List Byte :=
  leBytes 4 0x54415156 ++ leBytes 2 1 ++ leBytes 1 kind ++ leBytes 1 s.otp.lifecycle ++ leBytes 16 s.otp.ident.toNat
    ++ leBytes 1 Config.revA1.toNat
    ++ leBytes 1 (r.open_.toNat + 2 * r.tl.toNat + 4 * r.degraded.toNat + 8 * s.anySecure.toNat)
    ++ leBytes 2 s.sys.fwSvn ++ leBytes 2 (match s.arr.patch with | some p => p.svn | none => 0) ++ leBytes 2 0
    ++ nonce ++ leBytes 4 r.number.toNat ++ leBytes 4 0
    ++ leBytes 8 r.first.toNat ++ leBytes 8 (if r.open_ then s.postmark else r.last).toNat ++ leBytes 8 0
    ++ digestBytes r.mFw ++ digestBytes r.mPatch ++ digestBytes r.mTweed ++ digestBytes r.mPlace ++ digestBytes r.mProg
    ++ digestBytes r.mParam ++ digestBytes r.mWorld

/-- A report as reply words, signed by the attestation key. -/
def reportWords (b : List Byte) : List Word := packBytes (b ++ digestBytes (Config.edSign (digestBytes (Config.sha512 b))))

def State.attest (s : State) (v : Via) (q : Request) : State :=
  s.request v q (fun _ => plainDemand 3 (q.len == 11)) (fun t =>
    let r := t.inEffect ((t.sys.record).getD RunRecord.none)
    t.answerTo v q .ok 0 (reportWords (t.reportBody 1 (unpackBytes 32 q.words) r)))

def execAttest (p : Port) (q : Request) (s : State) : Host.Outcome State Fault Refusal :=
  if q.op = 0x61 then .next (s.attest (.ring p) q) else .refused .illFormed

/-- The run that SEAL_RUN may name: in ARMED the last completed run, in RUN the current one. -/
def State.sealable (s : State) (n : Word) : Option RunRecord :=
  match s.sys.record with
  | some r => if r.number = n then some r else none
  | none => none

def State.sealRun (s : State) (v : Via) (q : Request) : State :=
  s.request v q (fun t => { ver := 3, fields := q.len == 12 && (t.sealable (q.word 11) |>.isSome), permit := (.ok, 0),
                            mode := t.inModes [.armed, .run], early := false }) (fun t =>
    match t.sealable (q.word 11) with
    | some r => t.answerTo v q .ok 0 (reportWords (t.reportBody 2 (unpackBytes 32 q.words) r))
    | none => t.answerTo v q .badParameter 0 [])

def execSealRun (p : Port) (q : Request) (s : State) : Host.Outcome State Fault Refusal :=
  if q.op = 0x62 then .next (s.sealRun (.ring p) q) else .refused .illFormed

/-! ### WIPE (R590, R632) -/

/-- What a command that requires a secure session demands. -/
def State.secureOnly (s : State) (v : Via) (q : Request) : Status × Nat := (if s.sessionSecure v q.sess then .ok else .denied, 0)

/-- Part 1 of WIPE: every secure DRAM region is written with 0; a region in a lost stack makes it ROUTE_FAULT. -/
def State.wipeSecure (s : State) : Status × State :=
  (if s.secureSpans.all s.canWipe then .ok else .routeFault, s.wipeDram)

/-- WIPE: the wipe of the banks runs until WIPE_COMPLETE, which replies; without it the reply follows the DRAM part. -/
def State.wipeCmd (s : State) (v : Via) (q : Request) : State :=
  let w := q.word 0
  s.request v q (fun t =>
    { ver := 1, fields := q.len == 1 && 1 ≤ q.arg 0 && q.arg 0 < 4, permit := t.secureOnly v q,
      mode := t.inModes [.standby, .configure, .maintenance], early := false }) (fun t =>
    let (st, u) := if w.getLsbD 1 then t.wipeSecure else (.ok, t)
    if w.getLsbD 0 then
      let j := jobOf q v [0, if w.getLsbD 1 then st.code else 0xFF]
      (u.wipeBanks.begin j).mapSys (fun y => { y with wipe := some j })
    else u.answerTo v q st 0 (partsPayload (q.w0.setWidth 24) [(1, st)] []))

def execWipe (p : Port) (q : Request) (s : State) : Host.Outcome State Fault Refusal :=
  if q.op = 0x63 then .next (s.wipeCmd (.ring p) q) else .refused .illFormed

/-! ### LIFECYCLE (R654, R655, R657) -/

/-- The transitions of R654. -/
def lifeMove (a b : Nat) : Bool :=
  (a == 0 && b == 1) || (a == 1 && b == 2) || (a == 2 && b == 3) || (a == 3 && b == 1) || (a != 4 && b == 4)

/-- OTP after a bundle: minima only rise, and earlier keys go with their slots. -/
def Otp.provision (o : Otp) (b : List Byte) : Otp :=
  let k := leAt b 6 1
  { o with hostKeys := bundleKeys b 0x20 k, tweedKeys := bundleKeys b (0x20 + 32 * k) (leAt b 0x0C 1),
           revokedHost := [], revokedTweed := [], twsig := (leAt b 7 1).testBit 0, dbgUnlock := (leAt b 7 1).testBit 1,
           minFw := max o.minFw (leAt b 8 2), minPatch := max o.minPatch (leAt b 0x0A 2) }

/-- R655: the entry is burnt, secrets are wiped and a system reset follows. -/
def State.burn (s : State) (target : Nat) (b : List Byte) : State :=
  let o := if target = 1 then s.otp.provision b else s.otp
  let t : State := { s with otp := { o with log := o.log ++ [target] } }
  (t.wipeBanks.wipeDram).systemReset 7

/-! ### Resets that follow a reply (R637, R655) -/

/-- What follows the reply of a RESET of level 0 or 1, or of a LIFECYCLE. -/
def State.resetNow (s : State) (k : DueReset) : State :=
  match k with
  | .core => (s.setRfld bRST 0 5 1 1).cutCommands.coreReset
  | .system => s.systemReset 4
  | .life target b => s.burn target b

/-- The reset follows its reply, which may wait for room in the ring (R620). -/
def State.resetAfter (s : State) (v : Via) (k : DueReset) : State :=
  match v with
  | .ring p => if (s.port p).replies.isEmpty then s.resetNow k else s.mapSys (fun y => { y with resetDue := some (p, k) })
  | _ => s.resetNow k

/-- The oldest reply held at a port has been written, or is lost with the link: the reset that waited for it begins. -/
def State.resetReply (s : State) (p : Port) : State :=
  match s.sys.resetDue with
  | some (r, k) => if r = p then (s.mapSys (fun y => { y with resetDue := none })).resetNow k else s
  | none => s

def State.lifecycleCmd (s : State) (v : Via) (q : Request) : State :=
  let target := q.arg 0
  s.request v q (fun t =>
    { ver := 1, fields := q.len == (if target = 1 then 5 else 1) && (target ≠ 1 || (q.addrOk 1 && q.countOk 3)),
      permit := if (t.secureOnly v q).1 ≠ .ok then t.secureOnly v q
        else (if target = 1 then t.dramFor v q.sess (q.addr 1) (q.addr 3) else .ok, 0),
      mode := t.inModes [.standby, .maintenance], early := false }) (fun t =>
    if !lifeMove t.otp.lifecycle target || (31 ≤ t.otp.log.length && target ≠ 4) then t.answerTo v q .lifecycle 0 []
    else if target = 1 then
      let (st, b, u) := t.dramRead (q.addr 1) (q.addr 3)
      if st ≠ .ok then u.answerTo v q st 0 []
      else if !bundleOk b then u.answerTo v q .badParameter 0 []
      else (u.answerTo v q .ok 0 []).resetAfter v (.life 1 b)
    else (t.answerTo v q .ok 0 []).resetAfter v (.life target []))

def execLifecycle (p : Port) (q : Request) (s : State) : Host.Outcome State Fault Refusal :=
  if q.op = 0x64 then .next (s.lifecycleCmd (.ring p) q) else .refused .illFormed

/-! ### RESET (R568, R637) -/

/-- A request of the row for a level; a level above 2 belongs to no row. -/
def resetRow (q : Request) (k : Nat) : Bool := q.op == 0x70 && (q.arg 0 == k || 2 < q.arg 0)

/-- What a RESET of level 0 or 1 demands. -/
def State.resetDemand (s : State) (v : Via) (q : Request) (k : Nat) : Demand :=
  { plainDemand 1 (q.len == 1 && q.arg 0 == k && q.block == 0) with
    permit := (if s.anySecure && !s.sessionSecure v q.sess then .denied else .ok, 0) }

def State.resetCoreCmd (s : State) (v : Via) (q : Request) : State :=
  s.request v q (fun t => t.resetDemand v q 0) (fun t => (t.answerTo v q .ok 0 []).resetAfter v .core)

def State.resetSystemCmd (s : State) (v : Via) (q : Request) : State :=
  s.request v q (fun t => t.resetDemand v q 1) (fun t => (t.answerTo v q .ok 0 []).resetAfter v .system)

/-- The NIs of a target block (R543); a block with none has no traffic to quiesce. -/
def blockNis (b : Nat) : List Nat :=
  if 0x010 ≤ b && b ≤ 0x01F then [b - 0x010]
  else if b = bDRM then (List.range 16).map (· + 16)
  else if b = bPH then (List.range 16).map (· + 32)
  else if bTWQ ≤ b && b < bTWQ + 16 then [48 + (b - bTWQ)]
  else if bLQ ≤ b && b < bLQ + 36 then [64 + (b - bLQ)]
  else if b = bSEC then [107]
  else if b = bTWC then [108]
  else if b = bRST || b = bCLK || b = bPWR then [109]
  else []

/-- INJEN and EJEN of every NI of a block. -/
def State.setInj (s : State) (b v : Nat) : State := (blockNis b).foldl (fun s n => s.setRfld bNOC (0x100 + n) 23 1 v) s
def State.setEj (s : State) (b v : Nat) : State := (blockNis b).foldl (fun s n => s.setRfld bNOC (0x100 + n) 22 1 v) s

/-- EJEN and INJEN of every NI of a block, and their return to such values. -/
def State.niBits (s : State) (b : Nat) : List Nat := (blockNis b).map (fun n => s.rfld bNOC (0x100 + n) 22 2)
def State.niBitsBack (s : State) (b : Nat) (l : List Nat) : State :=
  ((blockNis b).zip l).foldl (fun s e => s.setRfld bNOC (0x100 + e.1) 22 2 e.2) s

/-- R10: SEC_CTL.LOCK and TWC_POLICY.LOCK, which only a system reset clears. -/
def lockBits (blk off : Nat) : Word := if (blk = bSEC && off = 0) || (blk = bTWC && off = 0x020) then 0x800000 else 0

/-- What a reset of a single block leaves in a register: the locks, and the world registers while they are locked or the mode bars every
write to them (R644). -/
def State.keptBits (s : State) (blk off : Nat) : Word :=
  if blk = bSEC && isWorldReg off && ((s.reg bSEC 0).getLsbD 23 || !s.inModes [.standby, .configure, .maintenance]) then 0xFFFFFF
  else lockBits blk off

/-- The registers of a block that software writes return to their reset values, but for level P (R11). -/
def State.blockRegs (s : State) (b : Nat) : State :=
  (s.regs.filter (fun e => e.1 / 0x100000 == b)).foldl (fun t e =>
    match regSpec b (e.1 % 0x100000) with
    | some r =>
      let k := BitVec.ofNat 24 (r.rw ||| r.w1c) &&& ~~~s.keptBits b (e.1 % 0x100000)
      if r.sys then t.setReg b (e.1 % 0x100000) ((e.2 &&& ~~~k) ||| (BitVec.ofNat 24 r.reset &&& k)) else t
    | none => t) s

/-- What a reset does to a block beside its registers (DEDUCED, log entry 35). -/
def State.blockReset (s : State) (b : Nat) : State :=
  let t := s.blockRegs b
  if b = bSEC then ((s.losesWorld t).foldl State.clearHolder t).fixOwners
  else if b = bPH then t.fixOwners
  else if 0x010 ≤ b && b ≤ 0x01F then
    (t.mapCv (fun c => { c with side := c.side.filter (fun d => d.tile % 16 != b - 0x010) })).mapMem (fun m => { m with
      egress := sdel m.egress (b - 0x010) })
  else if bTWQ ≤ b && b < bTWQ + 16 then t.emptyQueues (b - bTWQ)
  else if bLQ ≤ b && b < bLQ + 36 then (t.restartQuad (b - bLQ)).repower
  else t

/-- The block RESET under way. -/
def State.resetJob (s : State) : Option Job := (s.sys.pa.jobs ++ s.sys.pb.jobs).find? (fun j => j.op == 0x70)

/-- R568, R637: the RESET goes on as far as the counts of the block's NIs allow. -/
def State.resetPoll (s : State) : State :=
  match s.resetJob with
  | none => s
  | some j =>
    let b := (j.args[0]?).getD 0
    let quiet (lo : Nat) : Bool := (blockNis b).all (fun n => s.rfld bNOC (0x100 + n) lo 5 == 0)
    if !quiet 5 then s
    else
      let t := s.setEj b 0
      if !quiet 0 then t
      else (((t.blockReset b).setEj b 1).setInj b 1).finish j .ok 0 []

/-- The world that a session needs to reset a block. -/
def State.blockPermit (s : State) (v : Via) (q : Request) : Status × Nat :=
  (if !s.sessionSecure v q.sess && (q.block == bSEC || (blockNis q.block).any s.niWorld) then .denied else .ok, 0)

def State.resetBlockCmd (s : State) (v : Via) (q : Request) : State :=
  s.request v q (fun t => { plainDemand 1 (q.len == 1 && q.arg 0 == 2 && q.block != 0) with permit := t.blockPermit v q }) (fun t =>
    ((t.begin (jobOf q v (q.block :: t.niBits q.block))).setInj q.block 0).resetPoll)

def execResetCore (p : Port) (q : Request) (s : State) : Host.Outcome State Fault Refusal :=
  if resetRow q 0 then .next (s.resetCoreCmd (.ring p) q) else .refused .illFormed
def execResetSystem (p : Port) (q : Request) (s : State) : Host.Outcome State Fault Refusal :=
  if resetRow q 1 then .next (s.resetSystemCmd (.ring p) q) else .refused .illFormed
def execResetBlock (p : Port) (q : Request) (s : State) : Host.Outcome State Fault Refusal :=
  if resetRow q 2 then .next (s.resetBlockCmd (.ring p) q) else .refused .illFormed

/-- BLOCK_RESET_TIMEOUT: 10 ms have passed; INJEN and EJEN return and the block is left unreset. -/
def State.resetTimeout (s : State) : State :=
  match s.resetJob with
  | none => s
  | some j =>
    let b := (j.args[0]?).getD 0
    (s.niBitsBack b (j.args.drop 1)).finish j .timeout 0 []

def execBlockResetTimeout (s : State) : Host.Outcome State Fault Refusal := .next s.resetTimeout

/-! ### SELFTEST (R632, R715) -/

/-- A unit of test `i` is failing already: a tile that has lost its power or whose fault waits for its repair, or a lost DRAM stack. -/
def State.unitFails (s : State) (i : Nat) : Bool :=
  if i = 0 then s.cv.lost != 0 || s.sys.faults.any (fun f => match f with | .tile _ _ => true | _ => false)
  else if i = 2 then (List.range 4).any (fun k => s.lost k)
  else false

/-- The physical tiles that the tile test covers: those powered, in rows that have not failed. -/
def State.testedTiles (s : State) : List Nat :=
  (List.range 272).filter (fun t => s.cv.power.getLsbD t && !s.cv.failed.contains (t / 16))

/-- R697: what the tile test finds besides is open: no tile, or one, whose row is reported to the fault manager. -/
def State.tileFound (s : State) : Option Nat :=
  if s.freeBits 1 = 0 then none else s.testedTiles[(s.drawn.freeBits 9).toNat % max 1 s.testedTiles.length]?

/-- One selected test (R715): a failing unit reports UNCORRECTABLE. What a test finds beyond the failures that stand is open. -/
def State.test (s : State) (i : Nat) : Status × State :=
  if i = 0 then
    match s.tileFound with
    | some t => (.uncorrectable, s.drawn.drawn.report (.tile (t / 16) (t % 16)))
    | none => (if s.unitFails 0 then .uncorrectable else .ok, s.drawn.drawn)
  else (if s.unitFails i || s.freeBits 1 ≠ 0 then .uncorrectable else .ok, s.drawn)

/-- The selected tests, each a part. -/
def State.tests (s : State) (l : List Nat) : List (Nat × Status) × State :=
  match l with
  | [] => ([], s)
  | i :: r =>
    let (x, t) := (s.test i).2.tests r
    ((i, (s.test i).1) :: x, t)

def State.selftestCmd (s : State) (v : Via) (q : Request) : State :=
  s.request v q (fun t => { ver := 1, fields := q.len == 1 && q.arg 0 < 64, permit := (.ok, 0), mode := t.inModes [.maintenance],
                            early := false }) (fun t =>
    let (r, u) := t.tests ((List.range 6).filter (fun i => (q.word 0).getLsbD i))
    u.answerTo v q (partsStatus r).1 (partsStatus r).2 (partsPayload (q.w0.setWidth 24) r []))

def execSelftest (p : Port) (q : Request) (s : State) : Host.Outcome State Fault Refusal :=
  if q.op = 0x71 then .next (s.selftestCmd (.ring p) q) else .refused .illFormed

/-! ### READBACK (R418, R431, R435 to R437) -/

/-- The entries of the queues that a block holds, or of all the region's. -/
def State.queuesOf (s : State) (r lo n : Nat) : List (List (BitVec 72)) := (List.range n).map (fun q => sget [] s.tw.queues (1024 * r + lo + q))

/-- What a block in a queue mode holds: queue k at entries BASE to BASE + DEPTH − 1 (R411), the rest as its memory frames left it. -/
def State.queueBlock (s : State) (r b : Nat) : BitVec 36864 :=
  let w := if s.blockMode r b = 4 then 36 else 72
  (List.range 8).foldl (fun c k =>
    let q := 8 * b + k
    let cfg := s.queueCfg r q
    if cfg.getLsbD 23 then setFld c (fld cfg 0 10 * w) (queueDepth cfg * w) (Config.queueSpan w (queueDepth cfg) (sget [] s.tw.queues (1024 * r + q)))
    else c) (sget 0 s.tw.ram (128 * r + b))

/-- TWQ_CFG, TWQ_THR and TWQ_DROP of every queue of a region, and what its pop ports last returned (R435). -/
def State.queueControl (s : State) (r : Nat) : List Word :=
  (List.range 1024).flatMap (fun q => [0, 1, 3].map (fun i => s.reg (bTWQ + r) (4 * q + i)))
def State.popsOf (s : State) (r : Nat) : List (BitVec 72 × Bool) := (List.range 1024).map (fun q => sget (0, false) s.tw.popped (1024 * r + q))

/-- DATA of frame `k` of region `r` (R435, R436): the configuration with the shadow values, or what a running block holds. -/
def State.readbackData (s : State) (r k : Nat) : BitVec 4096 :=
  if k < 2432 then
    Config.shadow k (sget 0 s.tw.config (3584 * r + k)) (sget 0 s.tw.flops r) (s.queuesOf r 0 1024) (s.queueControl r) (s.popsOf r)
  else
    let b := (k - 2432) / 9
    (if s.blockMode r b < 4 then sget 0 s.tw.ram (128 * r + b) else s.queueBlock r b).extractLsb' ((k - 2432) % 9 * 4096) 4096

/-- A frame as READBACK writes it (R418, R436). -/
def readbackBytes (r k : Nat) (wrote : Bool) (d : BitVec 4096) : List Byte :=
  let fa := leBytes 4 (k + r * 4096)
  let mark := leBytes 8 wrote.toNat
  let data := leBytes 512 d.toNat
  fa ++ leBytes 4 (crc32 (fa ++ mark ++ data)).toNat ++ mark ++ data

/-- Frame `k` of a readback of region `r` goes to DRAM. Whether user logic wrote its block between the snapshot and the frame, and what the
frame then holds, is free (R436; DESIGN CHOICE, log entry 23); what it wrote to a RAM stays there. -/
def State.readbackFrame (s : State) (r addr k : Nat) : State :=
  let wrote := decide (2432 ≤ k) && s.runs r && (s.freeBits 1).getLsbD 0
  let d := if wrote then s.drawn.freeBits 4096 else s.readbackData r k
  let t := s.drawn.drawn
  let t := if wrote && s.blockMode r ((k - 2432) / 9) < 4 then t.mapTw (fun w => w.memoryFrame r k d) else t
  t.dwrite (addr + 528 * k) (readbackBytes r k wrote d)

/-- `n` frames from frame `k` into DRAM. -/
def State.readbackFrames (s : State) (r addr k n : Nat) : State :=
  match n with
  | 0 => s
  | m + 1 => (s.readbackFrame r addr k).readbackFrames r addr (k + 1) m

/-- READBACK. TWC_STATUS shows OP 3, its status and the region read; R428 gives REGION a meaning for a failing frame alone (DESIGN CHOICE,
log entry 104). -/
def State.readbackCmd (s : State) (v : Via) (q : Request) : State :=
  let r := q.arg 0
  s.request v q (fun t =>
    { ver := 1, fields := q.len == 3 && r < 16 && q.addrOk 1,
      permit := (if !t.sessionSecure v q.sess && t.regionWorld r then .denied else t.dramFor v q.sess (q.addr 1) (528 * 3584), 0),
      mode := t.inModes [.configure, .armed, .run, .maintenance] && (t.rstate r == 3 || t.clearing (clearRegion r))
        && !(t.critical r && t.seq.locked),
      early := false }) (fun t =>
    if t.tw.load.isSome || t.clearing (clearRegion r) then t.answerTo v q .busy 0 []
    else ((t.readbackFrames r (q.addr 1) 0 3584).setTwc false 3 r .ok).answerTo v q .ok 0 [])

def execReadback (p : Port) (q : Request) (s : State) : Host.Outcome State Fault Refusal :=
  if q.op = 0x72 then .next (s.readbackCmd (.ring p) q) else .refused .illFormed

/-! ### Unlisted opcodes and the fallback serial ports (R440 to R442, R664) -/

/-- A request whose opcode R632 does not list, or that the source may not send: R625 answers it. -/
def State.plainRequest (s : State) (v : Via) (q : Request) : State := s.request v q (fun _ => plainDemand 1 true) id

def execUnknownOpcodeRequest (p : Port) (q : Request) (s : State) : Host.Outcome State Fault Refusal :=
  if opListed q.op || q.op = 0 then .refused .illFormed else .next (s.plainRequest (.ring p) q)

/-- A packet on a fallback port, while the port holds its pins. -/
def State.fallbackPacket (s : State) (v : Via) (q : Request) : State :=
  if !s.serialPorts then s
  else if s.sys.boot = .failed && q.op ≠ 0x01 && q.op ≠ 0x02 then
    (if s.interprets v then s.refuse v q .wrongMode 0 else s)
  else if q.op = 0x01 then s.helloCmd v q
  else if q.op = 0x02 then s.getInfo v q
  else if q.op = 0x7E then s.regRead v q
  else if q.op = 0x70 then
    if q.arg 0 = 0 then s.resetCoreCmd v q else if q.arg 0 = 1 then s.resetSystemCmd v q else s.resetBlockCmd v q
  else if q.op = 0x71 then s.selftestCmd v q
  else s.plainRequest v q

def execSpiPacket (q : Request) (s : State) : Host.Outcome State Fault Refusal := .next (s.fallbackPacket .spi q)
def execUartPacket (q : Request) (s : State) : Host.Outcome State Fault Refusal := .next (s.fallbackPacket .uart q)

end Sys2Proof.Machine
end

