-- ==== Sys2Proof/Machine/NocOps.lean ====
section
/-! DEFINITION. Packets, regulators, routers, probes, the dead-letter office, reads and writes at the memories' NIs, router
reconfiguration, and the closing, gating and switching on of domains (14, 15, 18). -/

namespace Sys2Proof.Machine

/-! ### Injection (R547, R549, R553, R559, R568) -/

/-- A request as a block hands it to its NI: a KIND it may send, and data that BCNT counts. -/
def packetOk (k : Packet) : Bool :=
  let kind := hKind k.head
  (kind == 0 && k.data.isEmpty && hBytes k.head ≤ 512) || ((kind == 1 || kind == 2) && k.data.length == hBytes k.head && hBytes k.head ≤ 512)
    || (kind == 4 && k.data.length ≤ 512)

/-- The packet as NI `n` sends it, under route entry `i`, or in tree mode under the DST and VC the block names. -/
def State.builtHead (s : State) (n i : Nat) (k : Packet) : BitVec 256 :=
  let (w0, w1) := s.routeEntry n i
  let h := k.head
  let tree := s.treeMode
  headOf (if tree then 0 else w0.toNat + fld w1 0 12 * 2 ^ 24) (if tree then hVc h else fld w1 12 2) (flits k.data.length) n
    (if tree then hDst h else fld w1 14 7) (hKind h) (s.niWorld n) tree (hTag h) 0 (hView h) (hAddr h) (hBytes h - 1)

/-- R549: the entry is VALID, or the network is in tree mode, which uses none. -/
def State.entryOk (s : State) (n i : Nat) : Bool := s.treeMode || (s.routeEntry n i).2.getLsbD 23

/-- R553, R559, R568: what an NI's regulator, INJEN, a change of mode and its 31 outstanding requests let into the network. -/
def State.mayGo (s : State) (n : Nat) (h : BitVec 256) : Bool :=
  s.nocUp && !s.turning && s.niUp n && s.mayInject n (hVc h) (hLen h) && !(answered (hKind h) && s.outst n == 31)

/-- A packet enters the network; an entry that is not VALID refuses it with ROUTE_FAULT. -/
def State.enterNet (s : State) (n i : Nat) (k : Packet) : State :=
  let h := s.builtHead n i k
  if !s.entryOk n i then s.say .routeFault
  else
    let t := (s.spend n (hVc h) (hLen h)).launch n ⟨h, k.data⟩
    (if answered (hKind h) then t.setOutst n (t.outst n + 1) else t).say .ok

/-- The packets of a class that wait at an NI. -/
def State.waiting (s : State) (n c : Nat) : List (Nat × Packet) := sget [] s.noc.queued (4 * n + c)
def State.setWaiting (s : State) (n c : Nat) (l : List (Nat × Packet)) : State :=
  s.mapNoc (fun x => { x with queued := sput [] x.queued (4 * n + c) l })

/-- R554: the packets of a class that wait at NI `n` enter the network in order, as far as they may. -/
def State.pump (s : State) (n c : Nat) (l : List (Nat × Packet)) : State :=
  match l with
  | [] => s.setWaiting n c []
  | (i, k) :: r => if s.mayGo n (s.builtHead n i k) then (s.enterNet n i k).pump n c r else s.setWaiting n c l

/-- The packets that wait at every NI. -/
def State.pumpAll (s : State) : State := s.noc.queued.foldl (fun s e => s.pump (e.1 / 4) (e.1 % 4) e.2) s

/-- PACKET_INJECT. A packet that its NI must hold waits there, and the later ones of its class behind it (R554). A MESSAGE is CTRL traffic
(R551). -/
def State.inject (s : State) (n i : Nat) (k : Packet) : State :=
  let h := s.builtHead n i k
  if !s.nocUp || !s.niUp n || !packetOk k || (hKind h == 4 && hVc h != 0) then s
  else if !s.entryOk n i then s.say .routeFault
  else s.pump n (hVc h) (s.waiting n (hVc h) ++ [(i, k)])

def execPacketInject (n : Fin 111) (entry : Fin 128) (k : Packet) (s : State) : Host.Outcome State Fault Refusal :=
  .next (s.inject n entry k)

/-- TOKEN_REFILL; packets that wait for the tokens follow. -/
def State.refill (s : State) (n c : Nat) : State :=
  let rate := s.rfld bNOC (0x400 + 4 * n + c) 16 8
  if !s.nocUp || rate = 0 then s
  else
    let t := s.mapNoc (fun x => { x with
      tokens := sput 0 x.tokens (4 * n + c) (min (s.rfld bNOC (0x400 + 4 * n + c) 0 10) (sget 0 x.tokens (4 * n + c) + rate)) })
    if (t.waiting n c).isEmpty then t else t.pump n c (t.waiting n c)

def execTokenRefill (n : Fin 111) (c : Fin 4) (s : State) : Host.Outcome State Fault Refusal := .next (s.refill n c)

/-! ### Routers (R546, R558, R560, R562, R563, R566) -/

/-- What the destination's router does with a head for NI `n`: none, it waits; a status, it is bounced. -/
def State.eject (s : State) (n : Nat) (h : BitVec 256) : Option Status :=
  let st := s.niState n
  let reply := hKind h == 3 || hKind h == 5
  let waits := 16 ≤ n && n < 48
  if reply then (if s.niUp n then some .ok else some .domainAsleep)
  else if s.niWorld n && !hWorld h then some .denied
  else if 48 ≤ n && n < 64 && s.clearing (clearRegion (n - 48)) then some .busy
  else if 48 ≤ n && n < 64 && s.rstate (n - 48) ≠ 3 then some .wrongMode
  else if !s.niUp n || s.rfld bNOC (0x100 + n) 20 2 = 1 then (if waits then none else some .domainAsleep)
  else if st = 3 then some .busy
  else if answered (hKind h) && s.pend n = 31 then none
  else some .ok

/-- A head passes NI `n`'s eject port; `bad` says that a data flit is spoiled. -/
def State.arrive (s : State) (n : Nat) (k : Packet) (bad : Bool) : State :=
  let t := s.mapNoc (fun x => { x with arrived := sput [] x.arrived n (sget [] x.arrived n ++ [(k, bad)]) })
  if answered (hKind k.head) then t.setPend n (t.pend n + 1) else t

/-- A flight leaves the network. -/
def State.unfly (s : State) (f : Flight) : State := s.mapNoc (fun x => { x with flights := x.flights.erase f })

/-- The port a flight takes next. -/
def nextPort (f : Flight) (r : Nat) : Nat :=
  if f.back.isSome then treePort r 110 else if hTree f.packet.head then treePort r (hDst f.packet.head) else hRoute f.packet.head % 8

/-- The head as a router passes it on: ROUTE moves down one code. -/
def passedHead (h : BitVec 256) : BitVec 256 := if hTree h then h else setFld h 0 36 (hRoute h / 8)

/-- A link from row or column 7 to 0 or back, the wrap link of its ring. -/
def wraps (r port : Nat) : Bool :=
  (port == 0 && r / 8 == 7) || (port == 1 && r % 8 == 7) || (port == 2 && r / 8 == 0) || (port == 3 && r % 8 == 0)

/-- R548: the buffer set a packet uses after a link. -/
def upperSet (r port : Nat) (u : Option Bool) : Option Bool :=
  let x := port % 2 == 1
  if wraps r port then some x else if u == some x then u else none

/-- A head that no port takes: its port is not in use, or its twelve codes are spent (R560); one that has been bounced is not bounced
again (DEDUCED, log entry 37). -/
def State.strays (s : State) (r : Nat) (f : Flight) : Bool :=
  f.back.isNone && ((!hTree f.packet.head && f.hops == 12) || !s.portOk r (nextPort f r))

/-- A head waits at its destination's router. -/
def State.heldAt (s : State) (r : Nat) (f : Flight) : Bool :=
  let port := nextPort f r
  f.back.isNone && !s.strays r f && decide (4 ≤ port) && (s.eject (r + 64 * (port - 4)) f.packet.head).isNone

/-- The packets at a router that may go on, oldest first: not held, and behind no held packet of the same source and class. -/
def State.readyAt (s : State) (r : Nat) : List Flight :=
  let l := s.noc.flights.filter (fun f => f.at_ == r)
  let held := l.filter (s.heldAt r)
  l.filter (fun f => !held.any (fun g => hSrc g.packet.head == hSrc f.packet.head && hVc g.packet.head == hVc f.packet.head))

/-! R552: CTRL first; BULK, CAPTURE and TRACE share the rest in flits. Each round gives a waiting class its weight, and a class that
has flits left sends (DESIGN CHOICE for the order of the classes and the counting of the rounds, log entry 112). -/

def classWeight (c : Nat) : Nat := if c = 3 then 1 else 2

/-- Key of a class at a router output. -/
def creditKey (r port c : Nat) : Nat := 4 * (8 * r + port) + c

def State.credit (s : State) (r port c : Nat) : Int := sget 0 s.noc.credits (creditKey r port c)

/-- Rounds until a class has flits left. -/
def roundsFor (credit : Int) (c : Nat) : Nat := if 0 < credit then 0 else (-credit).toNat / classWeight c + 1

/-- The classes of packets that wait for a port. -/
def waitingClasses (l : List Flight) : List Nat := [1, 2, 3].filter (fun c => l.any (fun f => hVc f.packet.head == c))

/-- The least number of rounds that lets one of them send. -/
def State.rounds (s : State) (r port : Nat) (cs : List Nat) : Nat :=
  ((cs.map (fun c => roundsFor (s.credit r port c) c)).min?).getD 0

/-- The packet of those that wait for a port which takes it. -/
def State.pickFor (s : State) (r port : Nat) (l : List Flight) : Option Flight :=
  match l.find? (fun f => hVc f.packet.head == 0) with
  | some f => some f
  | none =>
    let cs := waitingClasses l
    let k := s.rounds r port cs
    match cs.find? (fun c => roundsFor (s.credit r port c) c ≤ k) with
    | some c => l.find? (fun f => hVc f.packet.head == c)
    | none => none

/-- The packets at a router that wait for a port. -/
def State.waitFor (s : State) (r port : Nat) : List Flight := (s.readyAt r).filter (fun f => nextPort f r == port)

/-- The packet that a router passes next: of those that its ports take, the oldest. -/
def State.nextFlight (s : State) (r : Nat) : Option Flight :=
  (s.readyAt r).find? (fun f => s.pickFor r (nextPort f r) (s.waitFor r (nextPort f r)) == some f)

/-- A packet of `h` takes an output: the rounds it took and its flits are counted. -/
def State.spendCredit (s : State) (r port : Nat) (h : BitVec 256) : State :=
  if hVc h = 0 then s
  else
    let cs := waitingClasses (s.waitFor r port)
    let k := s.rounds r port cs
    let left (c : Nat) : Int :=
      if cs.contains c then s.credit r port c + k * classWeight c - (if c = hVc h then hLen h else 0) else 0
    s.mapNoc (fun x => { x with
      credits := [1, 2, 3].foldl (fun m c => sput 0 m (creditKey r port c) (left c)) x.credits })

/-- One flight takes its hop at router `r`. -/
def State.hopFlight (s : State) (r : Nat) (f : Flight) : State :=
  let h := f.packet.head
  let port := nextPort f r
  let go : State := ((s.spendCredit r port h).unfly f).probesSee r port (passedHead h)
  if s.strays r f then (s.unfly f).bounce r h .routeFault
  else if port < 4 then
    go.mapNoc (fun x => { x with
      flights := x.flights ++ [{ f with
        packet := ⟨passedHead h, f.packet.data⟩, at_ := linkTo r port, hops := f.hops + 1, upper := upperSet r port f.upper }] })
  else match f.back with
    | some st => go.mapNoc (fun x => { x with office := x.office ++ [(h, st)] })
    | none =>
      let n := r + 64 * (port - 4)
      match s.eject n h with
      | none => s
      | some .ok => go.arrive n ⟨passedHead h, f.packet.data⟩ f.bad
      | some st => (s.unfly f).bounce r h st

/-- R548: a packet that a router takes with an uncorrectable error in its head flit is discarded; one in a data flit is passed on. -/
def State.takeFlight (s : State) (r : Nat) (f : Flight) (e : LinkError) : State :=
  match e with
  | .head => s.unfly f
  | .data =>
    if f.packet.data.isEmpty then s.hopFlight r f
    else
      let g : Flight := { f with bad := true }
      (s.mapNoc (fun x => { x with flights := x.flights.replace f g })).hopFlight r g
  | _ => s.hopFlight r f

/-- ROUTER_HOP: the packet that the router passes next takes its hop, unless the router is quiesced; `e` is what the check bits of its flits
show. -/
def State.routerHop (s : State) (r : Nat) (e : LinkError) : State :=
  if !s.nocUp || s.noc.quiesced.any (fun e => e.1 == r) then s
  else match s.nextFlight r with
    | some f => s.takeFlight r f e
    | none => s

def execRouterHop (n : Fin 64) (s : State) (e : LinkError := .clean) : Host.Outcome State Fault Refusal := .next (s.routerHop n e)

/-! ### Accesses at the memories (R545, R562, R571 to R573, R581 to R591) -/

/-- The owner code of an NI (R585). -/
def ownerOf (n : Nat) : Nat :=
  if n = 100 then 1 else if n = 101 then 2 else if n = 106 then 3 else if 102 ≤ n && n < 106 then 4 + (n - 102)
  else if 48 ≤ n && n < 64 then 0x10 + (n - 48) else if n = 107 then 0x20 else 0

/-- What bars a head from DRAM at controller NI `n`. -/
def State.dramAt (s : State) (n : Nat) (h : BitVec 256) : Option Status :=
  let a := hAddr h
  let firm := (102 ≤ hSrc h && hSrc h < 106) || hSrc h == 107
  if 2 ^ 34 ≤ a || 16 + 4 * stackOf a + a / 512 % 4 ≠ n || 512 < a % 512 + hBytes h then some .badParameter
  else if inFirmware a then (if !firm then some .denied else if s.lost (stackOf a) then some .routeFault else none)
  else s.dramBar (hWorld h) a (hBytes h)

/-- The containers that a span of a pigeonhole group touches: bank and container. -/
def groupConts (n a k : Nat) : List (Nat × Nat) :=
  (List.range ((a + k - 1) / 4 + 1 - a / 4)).map (fun i => let c := a / 4 + i; (4 * (n - 32) + c / 262144, c % 262144))

/-- A read at a group: the containers in order, or the first error. -/
def State.groupRead (s : State) (own : Nat) (world : Bool) (view : Nat) (l : List (Nat × Nat)) : Status × List Byte × State :=
  match l with
  | [] => (.ok, [], s)
  | (b, c) :: r =>
    match s.bankAccess own world false view b c 0 with
    | (.ok, v, t) =>
      let (st, d, u) := t.groupRead own world view r
      (st, leBytes 4 v.toNat ++ d, u)
    | (st, _, t) => (st, [], t)

/-- The new value of a container whose bytes at group addresses `a` to `a + data.length − 1` are written with `data`. -/
def mergeCont (old : Cont) (a c : Nat) (data : List Byte) (view : Nat) : Cont :=
  let byte (i : Nat) : Option Byte := if 4 * c + i < a then none else data[4 * c + i - a]?
  BitVec.ofNat 32 (leNat ((List.range 4).map (fun i =>
    match byte i with | some x => x | none => if view = 0 then BitVec.ofNat 8 (old.toNat / 256 ^ i) else 0)))

/-- What bars a write to a container; a write of less than all of it reads it first (R582). -/
def State.contBar (s : State) (own : Nat) (world : Bool) (view : Nat) (whole : Bool) (e : Nat × Nat) : Status :=
  let st := (s.bankAccess own world true view e.1 e.2 0).1
  if st ≠ .ok then st else if !whole && s.mem.phBad.contains (262144 * e.1 + e.2) then .uncorrectable else .ok

/-- A write at a group: every container or none. -/
def State.groupWrite (s : State) (n own : Nat) (world : Bool) (view a : Nat) (data : List Byte) : Status × State :=
  let l := groupConts n a data.length
  let base := 4 * (n - 32) * 262144
  let whole (e : Nat × Nat) : Bool := let c := 262144 * e.1 + e.2 - base; a ≤ 4 * c && 4 * c + 4 ≤ a + data.length
  match l.find? (fun e => s.contBar own world view (whole e) e != .ok) with
  | some e =>
    let st := s.contBar own world view (whole e) e
    (st, if st = .uncorrectable then (s.count bPH 0x041 1).setReg bPH 0x042 (BitVec.ofNat 24 (262144 * e.1 + e.2)) else s)
  | none =>
    (.ok, l.foldl (fun s e =>
      let s := if !whole e && view = 0 && s.mem.phSingle.contains (262144 * e.1 + e.2) then s.count bPH 0x040 1 else s
      (s.bankAccess own world true view e.1 e.2 (mergeCont (s.cont e.1 e.2) a (262144 * e.1 + e.2 - base) data view)).2.2) s)

/-- R586: an access that NI 32 + b/4 has accepted from the owner of bank `b`, or that the owner waits for through a window, is not
completed. -/
def State.ownerBusy (s : State) (b : Nat) : Bool :=
  let n := 32 + b / 4
  (s.owner b != 0 && (sget [] s.noc.arrived n).any (fun k => hKind k.1.head < 3 && ownerOf (hSrc k.1.head) == s.owner b
      && (groupConts n (hAddr k.1.head) (hBytes k.1.head)).any (fun e => e.1 == b)))
    || (s.seq :: s.sys.cores.map (·.seq)).any (fun q =>
      q.unit == s.owner b && fld q.phwin 0 6 == b && (match q.wait with
        | .window op w => (wordsAt (q.addrM w) (if op = 0x30 || op = 0x31 then 1 else 3)).any (fun a => placeOf a == .bank)
        | _ => false))

/-- OWNER_HANDOVER: the oldest handover asked of bank `b` takes effect, once every access accepted from the old owner is completed (R586);
an owner that the bank's world has been closed to since is none (R646). -/
def State.handOver (s : State) (b : Nat) : State :=
  match s.mem.handover.find? (fun e => e.1 == b) with
  | some e =>
    if s.ownerBusy b then s
    else ((s.mapMem (fun m => { m with handover := m.handover.erase e })).setOwner b e.2.1 e.2.2).fixOwners
  | none => s

def execOwnerHandover (n : Fin 64) (s : State) : Host.Outcome State Fault Refusal := .next (s.handOver n)

/-- A read that a packet asks of NI `n`: status, data and the state after. The address spaces of the other NIs are not given, so
what they answer is free (DESIGN CHOICE, log entry 27). -/
def State.readAt (s : State) (n : Nat) (h : BitVec 256) : Status × List Byte × State :=
  let a := hAddr h
  let k := hBytes h
  if 16 ≤ n && n < 32 then
    match s.dramAt n h with
    | some e => (e, [], s)
    | none => s.dramRead a k
  else if 32 ≤ n && n < 48 then
    if 2 ^ 22 < a + k then (.badParameter, [], s)
    else
      let (st, d, t) := s.groupRead (ownerOf (hSrc h)) (hWorld h) (hView h) (groupConts n a k)
      (st, (d.drop (a % 4)).take k, t)
  else (Status.ofCode (s.freeBits 8).toNat, leBytes k (s.drawn.freeBits (8 * k)).toNat, s.drawn.drawn)

/-- A write that a packet asks of NI `n`. -/
def State.writeAt (s : State) (n : Nat) (k : Packet) : Status × State :=
  let h := k.head
  if 16 ≤ n && n < 32 then
    match s.dramAt n h with
    | some e => (e, s)
    | none => (.ok, s.dwrite (hAddr h) k.data)
  else if 32 ≤ n && n < 48 then
    if 2 ^ 22 < hAddr h + k.data.length then (.badParameter, s)
    else s.groupWrite n (ownerOf (hSrc h)) (hWorld h) (hView h) (hAddr h) k.data
  else (Status.ofCode (s.freeBits 8).toNat, s.drawn)

/-- The packet at the front of those that NI `n` has taken, when it is of a KIND, and whether a data flit of it is spoiled. -/
def State.front (s : State) (n kind : Nat) : Option (Packet × Bool) :=
  match sget [] s.noc.arrived n with
  | k :: _ => if s.nocUp && hKind k.1.head = kind then some k else none
  | [] => none

/-- The NI is done with the packet at its front. -/
def State.pop (s : State) (n : Nat) : State := s.mapNoc (fun x => { x with arrived := sput [] x.arrived n ((sget [] x.arrived n).drop 1) })

/-- The head of NI `n`'s answer to a request: a RESPONSE on the request's class, under the entry that firmware has written for the pair of
destination and class (R550). -/
def State.answerHead (s : State) (n : Nat) (h : BitVec 256) (st : Status) (len : Nat) : BitVec 256 :=
  headOf (if s.treeMode then 0 else packCodes (s.routeCodes n (hSrc h))) (hVc h) (flits len) n (hSrc h) 3 (s.niWorld n) s.treeMode (hTag h)
    st.code 0 0 (len - 1)

/-- The answer of NI `n` to a request enters the network; before the route tables are written its entry is not VALID, and it never does
(R549). -/
def State.respond (s : State) (n : Nat) (h : BitVec 256) (st : Status) (data : List Byte) : State :=
  let t := s.setPend n (s.pend n - 1)
  if s.routed then (t.spend n (hVc h) (flits data.length)).launch n ⟨s.answerHead n h st data.length, data⟩ else t

/-- READ: NI `n` answers the READ at its front, once its regulator lets the answer in (R553). -/
def State.readPacket (s : State) (n : Nat) : State :=
  match s.front n 0 with
  | none => s
  | some (k, _) =>
    let (st, d, t) := (s.pop n).readAt n k.head
    let data := if st = .ok then d else []
    if s.hasTokens n (hVc k.head) (flits data.length) then t.respond n k.head st data else s

/-- WRITE: performed without an answer; one with a spoiled data flit is performed in no part (R548). -/
def State.writePacket (s : State) (n : Nat) : State :=
  match s.front n 1 with
  | none => s
  | some (k, bad) => if bad then s.pop n else ((s.pop n).writeAt n k).2

/-- WRITE_ACK: performed and answered; UNCORRECTABLE where a data flit is spoiled (R548). -/
def State.writeAckPacket (s : State) (n : Nat) : State :=
  match s.front n 2 with
  | none => s
  | some (k, bad) =>
    let (st, t) := if bad then (.uncorrectable, s.pop n) else (s.pop n).writeAt n k
    if s.hasTokens n (hVc k.head) 1 then t.respond n k.head st [] else s

def execRead (n : Fin 111) (s : State) : Host.Outcome State Fault Refusal := .next (s.readPacket n)
def execWrite (n : Fin 111) (s : State) : Host.Outcome State Fault Refusal := .next (s.writePacket n)
def execWriteAck (n : Fin 111) (s : State) : Host.Outcome State Fault Refusal := .next (s.writeAckPacket n)

/-- A packet is taken by the block behind NI `n`. -/
def State.receive (s : State) (n : Nat) (h : BitVec 256) : State :=
  (s.pop n).mapNoc (fun x => { x with received := sput 0 x.received n h })

/-- RESPONSE: a request of NI `n` is answered. -/
def State.responsePacket (s : State) (n : Nat) : State :=
  match s.front n 3 with
  | none => s
  | some (k, _) => (s.receive n k.head).setOutst n (s.outst n - 1)

/-- MESSAGE: at a host port, one from the sequencer or a service core sets SEQ (R610); at the sequencer it raises line 9 (R266). -/
def State.messagePacket (s : State) (n : Nat) : State :=
  match s.front n 4 with
  | none => s
  | some (k, _) =>
    let t := s.receive n k.head
    if (n = 100 || n = 101) && 102 ≤ hSrc k.head && hSrc k.head ≤ 106 then t.cause (if n = 100 then .a else .b) 5
    else if n = 106 then t.raiseLine 9
    else t

/-- R177, R562: a receipt for a READ or a WRITE_ACK at the sequencer is the error response of the window access under way. -/
def State.windowReceipt (s : State) (st : Status) : State :=
  match s.seq.wait with
  | .window op w =>
    (s.mapSeq (fun q => { q with wait := .none })).accessTrap (s.seq.addrM w).toNat (op = 0x31 || op = 0x33) st
  | _ => s

/-- RETURN_RECEIPT: the KIND of the bounced packet is in ADDR[2:0], the status in STATUS. -/
def State.receiptPacket (s : State) (n : Nat) : State :=
  match s.front n 5 with
  | none => s
  | some (k, _) =>
    let t := s.receive n k.head
    let t := if answered (hAddr k.head % 8) then t.setOutst n (t.outst n - 1) else t
    if n = 106 && answered (hAddr k.head % 8) then t.windowReceipt (Status.ofCode (fld k.head 74 8)) else t

def execResponse (n : Fin 111) (s : State) : Host.Outcome State Fault Refusal := .next (s.responsePacket n)
def execMessage (n : Fin 111) (s : State) : Host.Outcome State Fault Refusal := .next (s.messagePacket n)
def execReturnReceipt (n : Fin 111) (s : State) : Host.Outcome State Fault Refusal := .next (s.receiptPacket n)

/-! ### The dead-letter office (R561) -/

def State.bouncedHead (s : State) : State :=
  match s.nocUp, s.noc.office with
  | true, (h, st) :: r =>
    ((s.mapNoc (fun x => { x with office := r })).noteReceipt (hSrc h) (hDst h) st).launch 110 ⟨receiptFor h st, []⟩
  | _, _ => s

def execBouncedHead (s : State) : Host.Outcome State Fault Refusal := .next s.bouncedHead

/-! ### Router reconfiguration (R564) -/

/-- ROUTER_RECONFIGURATION: the router is quiesced; `ports` are the output ports to be disabled. -/
def State.quiesce (s : State) (r : Nat) (ports : BitVec 8) : State :=
  if s.noc.quiesced.any (fun e => e.1 == r) then s else s.mapNoc (fun x => { x with quiesced := x.quiesced ++ [(r, ports)] })

def execRouterReconfiguration (n : Fin 64) (ports : BitVec 8) (s : State) : Host.Outcome State Fault Refusal :=
  .next (s.quiesce n ports)

/-- ROUTER_RESUME: the settings take effect. -/
def State.resume (s : State) (r : Nat) : State :=
  match s.noc.quiesced.find? (fun e => e.1 == r) with
  | some e => s.mapNoc (fun x => { x with quiesced := x.quiesced.erase e, disabled := sput 0 x.disabled r e.2 })
  | none => s

def execRouterResume (n : Fin 64) (s : State) : Host.Outcome State Fault Refusal := .next (s.resume n)

/-! ### Domains (R566, R675 to R677, R685 to R688) -/

/-- R688, R689, R463, R511: the mode, the placement and the enables let domain `d` be powered: a tile under the placement, or in MAINTENANCE
as a test needs, a Tweed region that a staged load names too, every other domain as the mode has it. -/
def State.mayPower (s : State) (d : Nat) : Bool :=
  !s.sys.shutdown && (
    if d < 272 then s.sys.mode == .maintenance
      || (s.inModes [.configure, .armed, .run] && (match logTile s.cv.failed d with | some l => s.usedTile l | none => false))
    else (s.domainsFor s.sys.mode).getLsbD d
      || (312 ≤ d && d < 328 && s.inModes [.configure, .armed, .run, .maintenance]
          && (tweedRegions (sget [] s.sys.staged 2)).contains (d - 312)))

/-- What a domain must not be gated under: what keeps it powered in the mode, but for a tile in CONFIGURE and MAINTENANCE, which goes off
when the placement or the test no longer needs it, and a Tweed region that is BLANK and that no staged load names (R511). -/
def State.keepOn (s : State) (d : Nat) : Bool :=
  s.mayPower d && (if d < 272 then s.inModes [.armed, .run]
    else !(312 ≤ d && d < 328 && s.rstate (d - 312) == 1 && !(tweedRegions (sget [] s.sys.staged 2)).contains (d - 312)))

/-- DOMAIN_CLOSE. -/
def State.closeDomain (s : State) (d : Nat) : State := if s.domainUp d && !s.keepOn d then s.markNis d 1 else s

def execDomainClose (n : Fin 357) (s : State) : Host.Outcome State Fault Refusal := .next (s.closeDomain n)

/-- A domain goes off, with what R687 does not keep. -/
def State.offDomain (s : State) (d : Nat) : State :=
  let t := ((s.powerLost d).markNis d 0).setDomain d false
  (t.mapSys (fun y => { y with held := y.held.filter (· != d) })).lanesFollow

/-- DOMAIN_GATE. -/
def State.gateDomain (s : State) (d : Nat) : State := if !s.domain d || !s.closed d || s.keepOn d then s else s.offDomain d

def execDomainGate (n : Fin 357) (s : State) : Host.Outcome State Fault Refusal := .next (s.gateDomain n)

/-- A stack's controllers leave retention. -/
def State.unretain (s : State) (d : Nat) : State :=
  if 328 ≤ d && d < 332 && s.rfld bDRM 1 (2 * (d - 328)) 2 = 2 then s.setRfld bDRM 1 (2 * (d - 328)) 2 0 else s

/-- A held packet waits for a memory domain. -/
def State.wanted (s : State) (d : Nat) : Bool :=
  328 ≤ d && d < 348 && s.noc.flights.any (fun f => (nisOf d).contains (f.at_ + 64 * (nextPort f f.at_ - 4)) && 4 ≤ nextPort f f.at_)

/-- DOMAIN_WAKE (R566, R567): a domain that is CLOSING completes its closure first. -/
def State.wakeDomain (s : State) (d : Nat) : State :=
  if !s.nocUp || s.sys.shutdown || !s.wanted d || (s.domain d && !s.closed d) then s
  else
    let t := if s.domain d then s.offDomain d else s
    t.holdNew (((t.setDomain d true).markNis d 0).unretain d)

def execDomainWake (n : Fin 357) (s : State) : Host.Outcome State Fault Refusal := .next (s.wakeDomain n)

/-- DOMAIN_SWITCH_ON: the switch closes; reset and isolation hold until RESET_RELEASE. A tile is zeroed (R36). -/
def State.switchOn (s : State) (d : Nat) : State :=
  if s.domain d || !s.mayPower d then s
  else
    let one := BitVec.ofNat 272 (2 ^ d)
    let t := if d < 272 then s.mapCv (fun c => { (c.clearRegs one).zeroMem one with power := c.power ||| one, zeroing := c.zeroing ||| one })
      else s.setDomain d true
    ((t.mapSys (fun y => { y with held := y.held ++ [d] })).unretain d).markNis d 0

def execDomainSwitchOn (n : Fin 357) (s : State) : Host.Outcome State Fault Refusal := .next (s.switchOn n)

/-- RESET_RELEASE, once the domain's clock has been good for 64 cycles (R675, R676): isolation is removed; a retained Tweed region
returns to ACTIVE (R687). -/
def State.releaseReset (s : State) (d : Nat) : State :=
  if !s.sys.held.contains d || !s.clockGood d then s
  else
    let t := s.mapSys (fun y => { y with held := y.held.filter (· != d), noClock := y.noClock.filter (· != d) })
    let r := d - 312
    let t := if 312 ≤ d && d < 328 then (t.reviveRegion r).ungateRegion r else t
    t.lanesFollow

/-- A domain is to come on: a mode transition under way or the start-up sequence powers it, or it is held in reset. -/
def State.comingOn (s : State) (d : Nat) : Bool :=
  s.sys.held.contains d || (!s.domain d && (match s.sys.transition with
    | some (m, _) => if d < 272 then m == .armed else (s.domainsFor m).getLsbD d
    | none => s.sys.boot == .reset && 272 ≤ d && (s.domainsFor .standby).getLsbD d))

/-- CLOCK_NOT_READY (R677). -/
def State.clockMissing (s : State) (d : Nat) : State :=
  if !s.comingOn d then s
  else
    let t := s.setRfld bRST 0 10 1 1
    let t := if s.sys.held.contains d then t else t.mapSys (fun y => { y with noClock := y.noClock.filter (· != d) ++ [d] })
    if (t.reg bRST 2).getLsbD 23 then t else t.setReg bRST 2 (BitVec.ofNat 24 (2 ^ 23 + d))

def execClockNotReady (n : Fin 357) (s : State) : Host.Outcome State Fault Refusal := .next (s.clockMissing n)

/-- TILE_ZEROING_COMPLETE (R36): the ingress table and the kept planes of a tile that the placement uses are then restored (R687). -/
def State.zeroed (s : State) (t : Nat) : State :=
  if s.sys.held.contains t || !s.cv.zeroing.getLsbD t then s
  else (s.mapCv (fun c => { c with zeroing := setBit c.zeroing t false })).writeImages (fun l =>
    physTile s.cv.failed l == some t && s.usedTile l && s.inModes [.configure, .armed, .run])

def execTileZeroingComplete (n : Fin 272) (s : State) : Host.Outcome State Fault Refusal := .next (s.zeroed n)

end Sys2Proof.Machine
end

