-- ==== Sys2Proof/Machine/MemoryEvents.lean ====
section
/-! DEFINITION. Patrol scrub and the loss of a DRAM stack (15, 19). -/

namespace Sys2Proof.Machine

/-- PATROL_SCRUB (R577): a line of a stack in service is read, and a corrected error is written back. -/
def State.scrub (s : State) (line : Nat) : State :=
  let a := 64 * line
  if s.rfld bDRM 0 0 8 = 0 || s.rfld bDRM 1 (2 * stackOf a) 2 ≠ 0 then s
  else
    (s.dramRead a 64).2.2.mapMem (fun m => { m with dramSingle := m.dramSingle.filter (fun w => !(a ≤ 8 * w && 8 * w < a + 64)) })

def execPatrolScrub (line : BitVec 28) (s : State) : Host.Outcome State Fault Refusal := .next (s.scrub line.toNat)

/-- The other stack of a mirror pair (R578). -/
def mirrorOf (k : Nat) : Nat := (k + 2) % 4

/-- R579: the NI slots of a stack's four controllers are disabled. -/
def State.disableStack (s : State) (k : Nat) : State :=
  (List.range 4).foldl (fun s i => s.mapNoc (fun x => { x with
    disabled := sput 0 x.disabled (16 + 4 * k + i) (setBit (sget 0 x.disabled (16 + 4 * k + i)) 4 true) })) s

/-- R713: both stacks of a pair are lost: any run ends and the device goes to STANDBY, unless it is there or in SLEEP. A transition that
was under way is abandoned (R691). -/
def State.pairFallen (s : State) : State :=
  let t := (if s.sys.mode = .run then s.lastWindow.stopRun .routeFault else s).abortCommit
  match t.sys.mode, t.sys.transition with
  | .standby, none | .sleep, _ => t
  | _, some (.standby, _) => t
  | _, _ => t.abandon.beginMove .standby none

/-- STACK_LOSS (R579, R712, R713). -/
def State.stackLost (s : State) (k : Nat) : State :=
  if s.lost k then s
  else
    let t := (s.setRfld bDRM 1 (2 * k) 2 1).disableStack k
    let both := t.lost (mirrorOf k)
    let t := t.notice 0x0B k (if both then .routeFault else .ok) bDRM
    if both then t.pairFallen else t

def execStackLoss (n : Fin 4) (s : State) : Host.Outcome State Fault Refusal := .next (s.stackLost n)

end Sys2Proof.Machine
end

