-- ==== Sys2Proof/Machine/HostPorts.lean ====
section
/-! DEFINITION. Doorbells, interrupt status, semaphores, BAR2 and the bank windows, port resets and links (16), and what the
always-on tick of 1 µs brings. -/

namespace Sys2Proof.Machine

/-! ### Doorbells (R610, R617, R618) -/

/-- A ring pointer's doorbell: the new value replaces the pointer, or RINGERR is set. `room` says how far the pointer may move. -/
def State.ringBell (s : State) (p : Port) (off size room : Nat) (v : Cont) : State :=
  let old := (s.reg (mbx p) off).toNat
  if v.toNat % 4 ≠ 0 || size ≤ v.toNat || room < (v.toNat + size - old) % size then s.cause p 2
  else s.setReg (mbx p) off (v.setWidth 24)

/-- HOST_DB_REQ: the request tail moves, and never onto the head. -/
def State.bellReq (s : State) (p : Port) (v : Cont) : State :=
  let head := (s.reg (mbx p) 0x004).toNat
  let tail := (s.reg (mbx p) 0x008).toNat
  s.ringBell p 0x008 131072 (131071 - (tail + 131072 - head) % 131072) v

/-- HOST_DB_REP and HOST_DB_EV: the head moves up to the tail (DEDUCED, log entry 39). -/
def State.bellHead (s : State) (p : Port) (ev : Bool) (v : Cont) : State :=
  let size := (ringAt ev).2
  let head := (s.reg (mbx p) (if ev then 0x014 else 0x00C)).toNat
  let tail := (s.reg (mbx p) (if ev then 0x018 else 0x010)).toNat
  s.ringBell p (if ev then 0x014 else 0x00C) size ((tail + size - head) % size) v

/-- HOST_DB_SEQ and HOST_DB_PEER with bit 0 set: line 4 or 5, and the other port's PEER cause. -/
def State.bellSeq (s : State) (p : Port) (v : Cont) : State := if v.getLsbD 0 then s.raiseLine (4 + portIdx p) else s
def State.bellPeer (s : State) (p : Port) (v : Cont) : State := if v.getLsbD 0 then s.cause (portOther p) 4 else s

/-- HOST_ISTAT is W1C; a bit that hardware sets in the same clock stays set (R13), and sends its vector again (R611). -/
def State.clearIstat (s : State) (p : Port) (w : WriteData) : State :=
  let left := w.value.setWidth 24 &&& w.hit &&& s.reg (dbl p) 0x020 &&& s.reg (dbl p) 0x024
  (List.range 8).foldl (fun s c => if left.getLsbD c then s.sendVector p c else s)
    (s.regApply (dbl p) 0x020 ((s.outrun (dbl p) 0x020 w.value w.hit).setWidth 24))

def execHostDbReq (p : Port) (v : Cont) (s : State) : Host.Outcome State Fault Refusal := .next (s.atPort p (.request v) (fun t => t.bellReq p v))
def execHostDbRep (p : Port) (v : Cont) (s : State) : Host.Outcome State Fault Refusal :=
  .next (s.atPort p (.head false v) (fun t => t.bellHead p false v))
def execHostDbEv (p : Port) (v : Cont) (s : State) : Host.Outcome State Fault Refusal :=
  .next (s.atPort p (.head true v) (fun t => t.bellHead p true v))
def execHostDbSeq (p : Port) (v : Cont) (s : State) : Host.Outcome State Fault Refusal :=
  .next (s.atPort p (.toSequencer v) (fun t => t.bellSeq p v))
def execHostDbPeer (p : Port) (v : Cont) (s : State) : Host.Outcome State Fault Refusal :=
  .next (s.atPort p (.toPeer v) (fun t => t.bellPeer p v))

/-- HOST_ISTAT_WRITE: W1C; partial byte enables make it void (R604). -/
def execHostIstatWrite (p : Port) (v : WriteData) (s : State) : Host.Outcome State Fault Refusal :=
  .next (if v.be ≠ 0xF then s else s.atPort p (.istat v) (fun t => t.clearIstat p v))

/-! ### HOST_ERR -/

/-- HOST_ERR and HOST_ERRADDR record a refused access: area 0 BAR0 registers, 1 bank windows, 2 BAR2. -/
def State.hostErr (s : State) (p : Port) (st : Status) (wr : Bool) (area off : Nat) : State :=
  (s.setReg (mbx p) 0x04C (BitVec.ofNat 24 (st.code * 65536 + wr.toNat * 32768 + area * 8192))).setReg (mbx p) 0x050
    (BitVec.ofNat 24 (off / 16))

/-! ### Semaphores (R612 to R615) -/

/-- A semaphore: its owner, 0 free, 1 host A, 2 host B, and what remains of its lease in µs. -/
def State.sem (s : State) (n : Nat) : Nat × Nat := sget (0, 0) s.sys.sems n
def State.setSem (s : State) (n : Nat) (x : Nat × Nat) : State := s.mapSys (fun y => { y with sems := sput (0, 0) y.sems n x })

/-- R612: one write. -/
def State.semPut (s : State) (p : Port) (n lease : Nat) : State :=
  let own := (s.sem n).1
  let me := portIdx p + 1
  if 16000000 < lease then s.hostErr p .badParameter true 0 (0x4000 + 4 * n)
  else if lease = 0 then (if own = me then s.setSem n (0, 0) else s)
  else if own = 0 || own = me then s.setSem n (me, lease)
  else s

/-- SEM_WRITE: `tie` is the LEASE that the other port writes in the same tick, which R613 orders. -/
def State.semWrite (s : State) (p : Port) (n : Nat) (v : Word) (tie : Option Word) : State :=
  match tie with
  | none => s.semPut p n v.toNat
  | some u =>
    let first := match s.sys.tieWinner with | none => Port.a | some w => portOther w
    let t := s.mapSys (fun y => { y with tieWinner := some first })
    if first = p then (t.semPut p n v.toNat).semPut (portOther p) n u.toNat
    else (t.semPut (portOther p) n u.toNat).semPut p n v.toNat

def execSemWrite (p : Port) (n : Fin 128) (v : Word) (tie : Option Word) (s : State) : Host.Outcome State Fault Refusal :=
  .next (s.atPort p (.semaphore n v tie) (fun t => t.semWrite p n v tie))

/-- R614: a lease has run out. -/
def State.semExpire (s : State) (n : Nat) : State :=
  let p : Port := if (s.sem n).1 = 2 then .b else .a
  ((((s.setSem n (0, 0)).setRfld (mbx p) (0x020 + 4 * (n / 24)) (n % 24) 1 1).cause p 3).raiseLine 10)

/-- LEASE_EXPIRY: the tick in which a lease of 1 µs or less runs out. -/
def State.leaseEnd (s : State) (n : Nat) : State := if (s.sem n).1 ≠ 0 && (s.sem n).2 ≤ 1 then s.semExpire n else s

def execLeaseExpiry (n : Fin 128) (s : State) : Host.Outcome State Fault Refusal := .next (s.leaseEnd n)

/-- R614: every lease loses 1 µs. -/
def State.leaseTick (s : State) : State :=
  s.sys.sems.foldl (fun s e => if e.2.2 ≤ 1 then s.leaseEnd e.1 else s.setSem e.1 (e.2.1, e.2.2 - 1)) s

/-! ### BAR2 (R602, R607, R692, R695) -/

/-- A span lies in one DRAM region that a session of the port has claimed. -/
def State.portHolds (s : State) (p : Port) (a n : Nat) : Bool :=
  (List.range 16).any (fun k =>
    (match s.holder 7 k with | some c => c.port == some p | none => false) && (match s.region k with
      | some (b, z, _) => b ≤ a && a + n ≤ b + z
      | none => false))

/-- What the network returns of a BAR2 access: the first of its requests that is bounced. -/
def State.bar2Bounce (s : State) (p : Port) (a n : Nat) : Option (Nat × Status) :=
  (linesOf a n).findSome? (fun l => (s.bounced (100 + portIdx p) (dramNi l.1)).map (fun st => (dramNi l.1, st)))

/-- What refuses a BAR2 access of `n` bytes. -/
def State.bar2Bar (s : State) (p : Port) (a n : Nat) : Option Status :=
  if inFirmware a || 2 ^ 34 < a + n then some .denied
  else if s.lost (stackOf a) then some .routeFault
  else if !s.portHolds p a n then some .denied
  else match s.bar2Bounce p a n with
    | some e => some e.2
    | none => s.dramBar false a n

/-- The transfer of one 512-byte line of a BAR2 access. -/
def bar2Transfer (p : Port) (wr : Bool) (l : Nat × Nat) : Transfer where
  src := 100 + portIdx p
  dst := dramNi l.1
  vc := 1
  wr := wr
  world := false
  view := 0
  addr := l.1
  n := l.2

/-- Probes see the requests of a BAR2 access and their answers. -/
def State.bar2Seen (s : State) (p : Port) (wr : Bool) (a n : Nat) (st : Status) : State :=
  if s.noc.probes.isEmpty then s else (linesOf a n).foldl (fun s l => s.seen (bar2Transfer p wr l) st) s

/-- A refused BAR2 access: one that has gone to its controller comes back, by a receipt of the dead-letter office or an answer. -/
def State.bar2Back (s : State) (p : Port) (wr : Bool) (a n : Nat) (st : Status) : State :=
  if inFirmware a || 2 ^ 34 < a + n || !s.portHolds p a n then s
  else match s.bar2Bounce p a n with
    | some (ni, e) => (s.noteReceipt (100 + portIdx p) ni e).seenBack (bar2Transfer p wr (a, n)) e
    | none => s.bar2Seen p wr a n st

/-- The boot buffer with bytes written from an offset; unwritten bytes are 0. -/
def bufferPut (b : List Byte) (off : Nat) (d : List Byte) : List Byte :=
  (b ++ List.replicate (off - b.length) 0).take off ++ d ++ b.drop (off + d.length)

def State.bar2Write (s : State) (p : Port) (off : Nat) (d : List Byte) : State :=
  if s.bootPort p then
    if off + d.length ≤ 0x200000 then
      s.mapSys (fun y => { y with staged := sput [] y.staged 5 (bufferPut (sget [] y.staged 5) off d) })
    else s.hostErr p .denied true 2 off
  else
    let a := s.bar2At p off
    match s.bar2Bar p a d.length with
    | some e => (s.bar2Back p true a d.length e).hostErr p e true 2 off
    | none => (s.dwrite a d).bar2Seen p true a d.length .ok

def execBar2Write (p : Port) (off : BitVec 28) (data : List Byte) (s : State) : Host.Outcome State Fault Refusal :=
  .next (s.atPort p (.memory off.toNat data) (fun t => t.bar2Write p off.toNat data))

/-- What a port's read completes with; AER records an Unsupported Request (R599). -/
def State.complete (s : State) (p : Port) (l : List Cont) (poisoned unsupported : Bool) : State :=
  s.mapPort p (fun h => { h with completion := l, poisoned := poisoned, unsupported := unsupported, aer := h.aer || unsupported })

/-- R692: a read in SLEEP completes with zero data, records DOMAIN_ASLEEP and starts a wake; one that the network holds, or that an earlier
write of the port waits before (R605), does not complete yet. In D3hot it is an Unsupported Request (R599). -/
def State.readAtPort (s : State) (p : Port) (area off words : Nat) (x : Option BarTarget) (act : State → State) : State :=
  if !s.portOn p then (if (s.port p).link && !s.sys.shutdown then s.complete p [] false true else s)
  else if s.sys.mode = .sleep then
    ((s.complete p (List.replicate words 0) false false).hostErr p .domainAsleep false area off).wake
  else if s.barHeld p x then s
  else (act (s.barSpend p x)).wake

def State.bar2Read (s : State) (p : Port) (off n : Nat) : State :=
  if s.bootPort p then
    if off + n ≤ 0x200000 then
      s.complete p (containers ((List.range n).map (fun i => ((sget [] s.sys.staged 5)[off + i]?).getD 0))) false false
    else (s.complete p [] false true).hostErr p .denied false 2 off
  else
    let a := s.bar2At p off
    match s.bar2Bar p a n with
    | some e => ((s.bar2Back p false a n e).complete p [] false true).hostErr p e false 2 off
    | none =>
      match s.dramRead a n with
      | (.ok, b, t) => (t.bar2Seen p false a n .ok).complete p (containers b) false false
      | (st, _, t0) =>
        let t := t0.bar2Seen p false a n st
        ((t.drawn.complete p (containers (leBytes n (t.freeBits (8 * n)).toNat)) true false).hostErr p st false 2 off)

def execBar2Read (p : Port) (off : BitVec 28) (len : Nat) (s : State) : Host.Outcome State Fault Refusal :=
  .next (s.readAtPort p 2 off.toNat ((len + 3) / 4) (s.bar2Target p off.toNat len false) (fun t => t.bar2Read p off.toNat len))

/-! ### Bank windows (R602, R608) -/

/-- An access of a port to container `n` of its own mailbox bank or of the bank that HOST_PHWIN names. -/
def State.bankWindow (s : State) (p : Port) (own wr : Bool) (n : Nat) (v : Cont) : State :=
  let w := s.reg (mbx p) 0x044
  let b := if own then portIdx p else fld w 0 6
  let view := if own then 0 else fld w 6 2
  let off := (if own then 0x400000 else 0x800000) + 4 * n
  let go : Transfer := { src := 100 + portIdx p, dst := 32 + b / 4, vc := 0, wr := wr, world := false, view := view,
                         addr := b % 4 * 2 ^ 20 + 4 * n, n := 4 }
  let (st, x, t) := if view = 3 then (Status.badParameter, (0 : Cont), s)
    else match s.bounced go.src go.dst with
      | some e => (e, 0, (s.noteReceipt go.src go.dst e).seenBack go e)
      | none => let (st, x, t) := s.bankAccess (ownHost p) false wr view b n v; (st, x, t.seen go st)
  if st = .ok then (if wr then t else t.complete p [x] false false)
  else
    let u := t.hostErr p st wr 1 off
    if wr then u
    else if st = .uncorrectable then u.drawn.complete p [u.freeBits 32] true false
    else u.complete p [] false true

def execBar0BankWindowAccess (p : Port) (own wr : Bool) (n : BitVec 18) (v : Cont) (s : State) : Host.Outcome State Fault Refusal :=
  let act (t : State) : State := t.bankWindow p own wr n.toNat v
  .next (if wr then s.atPort p (.bank own n.toNat v) act else s.readAtPort p 1 ((if own then 0x400000 else 0x800000) + 4 * n.toNat) 1
    (s.bankTarget p own false) act)

/-- DIAG_WINDOW_ACCESS (R609): a REG_READ or REG_WRITE of session 0 in MAINTENANCE; a read's value is what the port returns. -/
def State.diag (s : State) (p : Port) (wr : Bool) (off : Nat) (w : WriteData) : State :=
  let blk := s.rfld (mbx p) 0x048 0 12
  let give (t : State) (v : Word) : State := t.complete p [v.setWidth 32] false false
  if s.sys.mode ≠ .maintenance then (if wr then s else give s 0)
  else if !regBlock blk then (if wr then s.say .badParameter else (give s 0).say .badParameter)
  else if wr then
    let (st, t) := s.writeReg (.ring p) 0 blk off ((s.outrun blk off w.value w.hit).setWidth 24)
    t.say st
  else
    let (st, v, t) := s.readReg false blk off
    (give t v).say st

def execDiagWindowAccess (p : Port) (wr : Bool) (n : BitVec 14) (v : WriteData) (s : State) : Host.Outcome State Fault Refusal :=
  let act (t : State) : State := t.diag p wr n.toNat v
  .next (if wr then (if v.be ≠ 0xF then s else s.atPort p (.diag n.toNat v) act)
    else s.readAtPort p 0 (0x20000 + 4 * n.toNat) 1 none act)

/-! ### Port resets and links (R606, R688) -/

/-- The S-level registers of a port's mailbox-control and doorbell areas at their reset values. -/
def State.portRegs (s : State) (p : Port) : State :=
  { s with regs := s.regs.filter (fun e => e.1 / 0x100000 != mbx p && e.1 / 0x100000 != dbl p) }

/-- PORT_RESET. The port's held BAR writes are lost with its link. -/
def State.portReset (s : State) (p : Port) : State :=
  let t := (s.releaseAll (fun c => c.port == some p)).mapSys (fun y => { y with
    posted := y.posted.filter (fun e => e.1 != p) })
  let t := t.mapPort p (fun h => { h with
    link := false, sessions := [], replies := [], msix := [], pba := 0, completion := [], poisoned := false, unsupported := false,
    config := PortConfig.reset, aer := false,
    jobs := h.jobs.map (fun j => if j.via = .ring p then { j with mute := true } else j) })
  ((t.portRegs p).gateOff (355 + portIdx p)).resetReply p

def execPortReset (p : Port) (s : State) : Host.Outcome State Fault Refusal := .next (s.portReset p)

/-- PCIE_LINK_UP: a link trains once its PLL is locked. The port is enumerable again, but for port B under the x16 strap (R600), and its
host has set its configuration; x16 is port A's alone, under the strap. -/
def State.linkUp (s : State) (p : Port) (c : PortConfig) : State :=
  if s.sys.boot = .reset || s.sys.shutdown || (p = .b && s.x16) then s
  else
    let c : PortConfig := { c with lanes := if s.x16 then c.lanes else ⟨min c.lanes.val 3, by omega⟩ }
    (s.holdNew ((s.mapPort p (fun h => { h with link := true, pll := true, config := c })).setDomain (355 + portIdx p) true)).markNis (355 + portIdx p) 0

def execPcieLinkUp (p : Port) (s : State) (c : PortConfig := {}) : Host.Outcome State Fault Refusal := .next (s.linkUp p c)

/-- REPLY_RELEASE (R620): the oldest reply held is written once it fits, and a RESET that waited for it begins (R637). -/
def State.replyRelease (s : State) (p : Port) : State :=
  match (s.port p).replies with
  | [] => s
  | ws :: r =>
    match s.replyFits p ws with
    | some (at_, pad) => ((s.mapPort p (fun h => { h with replies := r })).ringPut p false at_ pad ws).resetReply p
    | none => s

def execReplyRelease (p : Port) (s : State) : Host.Outcome State Fault Refusal := .next (s.replyRelease p)

/-- NONCE_EXPIRY (R630). -/
def execNonceExpiry (p : Port) (s : State) : Host.Outcome State Fault Refusal :=
  .next (s.mapPort p (fun h => { h with nonce := none }))

end Sys2Proof.Machine
end

