-- ==== Sys2Proof/Machine/ResetPower.lean ====
section
/-! DEFINITION. Reset sources, thermal shutdown and the start-up sequence (13, 18). -/

namespace Sys2Proof.Machine

/-! ### Reset sources (R670 to R672, R684, R725) -/

def execPowerOnReset (s : State) : Host.Outcome State Fault Refusal := .next (s.powerReset 0)
def execBrownOut (s : State) : Host.Outcome State Fault Refusal := .next (s.powerReset 1)
def execSystemReset (s : State) : Host.Outcome State Fault Refusal := .next (s.systemReset 2)

/-- WATCHDOG_EXPIRY: paused in SLEEP and while a reset is in progress (R671). -/
def execWatchdogExpiry (s : State) : Host.Outcome State Fault Refusal :=
  .next (if s.sys.mode = .sleep || s.sys.boot = .reset then s else s.systemReset 3)

/-- PLL_LOSS_OF_LOCK: the Canvas, NoC or DRAM PLL, whose domains have been released, or the PCIe PLL of a port, whose link goes down as R606
says. -/
def State.pllLost (s : State) (port : Option Port) : State :=
  if s.sys.boot = .reset then s
  else match port with
    | none => s.systemReset 11
    | some p => (s.mapPort p (fun h => { h with pll := false })).portReset p

def execPllLossOfLock (s : State) (port : Option Port := none) : Host.Outcome State Fault Refusal := .next (s.pllLost port)

/-- THERMAL_SHUTDOWN (R536): every switched domain is gated, and BUSY stays asserted until a reset. -/
def State.shutDown (s : State) : State :=
  if s.sys.shutdown then s
  else
    let t := ((s.event 0x0E 1 .ok bFRK).setRfld bRST 0 9 1 1).endCommands
    let t := (t.coreArray.mapSeq (fun q => { q.core with stopped := true })).mapCv (fun c => c.powerTiles 0 false)
    let t := (ones s.sys.on).foldl State.powerLost t
    let t := t.mapOut (fun o => { o with fault := true, thermal := true, accSeen := 0, accHigh := 0 })
    -- R741: every run is lost, one accepted and one in progress
    t.mapSys (fun y => { y with
      shutdown := true, on := 0, held := [], accepted := none, restart := false, mode := if y.mode = .run then .armed else y.mode,
      record := y.record.map (fun r => if r.open_ then { r with open_ := false, last := s.postmark } else r),
      pa := { y.pa with link := false }, pb := { y.pb with link := false } })

def execThermalShutdown (s : State) : Host.Outcome State Fault Refusal := .next s.shutDown

/-! ### Start-up (R98, R574, R583, R657, R664, R678 to R680, R694, R695) -/

/-- R678: the strap code of a mean voltage in mV. -/
def strapCode (mv : Nat) : Nat := min 15 (2 * mv / 225)

/-- R680: the boot source in effect. -/
def bootSource (code : Nat) : Nat :=
  if code / 4 % 2 = 1 then (if code % 4 = 2 then 0 else if code % 4 = 3 then 1 else code % 4) else code % 4

/-- RST_STRAP. -/
def strapWord (mv : Nat) : Word :=
  let c := strapCode mv
  BitVec.ofNat 24 ((c == 6 || c == 14 : Bool).toNat * 2 ^ 23 + min 2047 mv * 2 ^ 11 + bootSource c * 2 ^ 4 + c)

/-- Steps 1 to 5: strap, pigeonhole banks, links, DRAM. The zeroing carries out the pending wipe of every stack that trains (R660). -/
def State.startEarly (s : State) (e : StartUp) : State :=
  let t := if s.sys.strapped then s else s.setReg bRST 1 (strapWord e.strapMv)
  let x16 := (t.reg bRST 1).getLsbD 2
  let t := t.setReg bCLK 0 0xF00000
  let m : Memories := { t.mem with dram := [], dramBad := [], dramSingle := [], ph := [], phBad := [], phSingle := [] }
  let t : State := { t with
    otp := { t.otp with pendingWipe := t.otp.pendingWipe.filter (fun c => e.untrained.getLsbD (stackOf (c / 2 ^ 20 * 2 ^ 20))) }, mem := m }
  let t := t.mapSys (fun y => { y with
    strapped := true, hot := false, pa := { y.pa with link := true, pll := true }, pb := { y.pb with link := !x16, pll := true } })
  s.holdNew (t.mapSys (fun y => { y with on := t.domainsFor .standby }))

/-- The baseline patch, where R306 passes it (R310). -/
def State.baseline (s : State) : Option Patch := if patchCheck s.otp s.otp.baselinePatch = .ok then some (patchOf s.otp.baselinePatch) else none

/-- The physical rows that hold a failing tile (R98), recorded in ascending order (DESIGN CHOICE, log entry 101). -/
def failedRows (e : StartUp) : List Nat := (List.range 17).filter (fun r => e.failing.any (fun t => t.val / 16 == r))

/-- The first frame of an image that fails steps 5 to 7 of R425, with its status. -/
def firstBadFrame (b : List Byte) : Option (Nat × Status) :=
  ((List.range (tweedFrames b)).map (fun i =>
    let (_, k) := frameAddr b i
    (i, frameCheck b i (Config.muxOk k (frameData b i))))).find? (fun e => e.2 != .ok)

/-- Step 10: the golden Tweed image, which configures regions 0 to 14 (R439), is loaded under R425 and R428; where it fails a check of
its header, nothing is loaded, and where it fails a later one, its regions are BLANK (DEDUCED, log entry 41). -/
def State.goldenLoad (s : State) : State :=
  let g := s.otp.goldenTweed
  let l : TweedLoad := { image := g, next := 0, passed := false, reload := false, cause := .ok, barred := none }
  if tweedHeader s.otp ((s.reg bTWC 0x020).getLsbD 0) g ≠ .ok then s
  else match firstBadFrame g with
    | some (i, st) => s.failLoad l i st
    | none =>
      if tweedFinal s.otp g ≠ .ok then s.failLoad l (tweedFrames g - 1) (tweedFinal s.otp g)
      else
        ((tweedRegions g).filter (fun r => r != 15)).foldl (fun s r =>
          let t := (List.range (tweedFrames g)).foldl (fun s i =>
            let (q, k) := frameAddr g i
            if q = r then s.putFrame r k (frameData g i) else s) s
          ((t.setReg bTWC r (BitVec.ofNat 24 (3 + (tweedNoncrit g r).toNat * 2 ^ 23))).controlled r).mapTw (fun w => { w with
            digest := sput 0 w.digest r (tweedDigest g), golden := setBit w.golden r true })) s

/-- R657: boot firmware writes TWC_POLICY from the provisioned policy. -/
def State.tweedPolicy (s : State) : State :=
  if s.otp.lifecycle = 0 then s else s.setReg bTWC 0x020 (BitVec.ofNat 24 (2 ^ 23 + s.otp.twsig.toNat))

/-- Steps 7 to 11, once firmware has passed its check: `b` is a host's image, or empty for the golden one. -/
def State.startLate (s : State) (e : StartUp) (b : List Byte) : State :=
  let img := if b.isEmpty then s.otp.goldenFirmware else b
  let t := (s.keepImage 0 b).mapSys (fun y => { y with boot := .done, mFw := firmwareDigest img, fwSvn := leAt img 6 2 })
  let t := ((t.mapArr (fun a => { a with patch := t.baseline })).mapNoc (fun x => { x with leaving := true })).leaveTree
  let t := t.mapCv (fun c => { c with failed := failedRows e })
  let t := (t.tweedPolicy.goldenLoad).tweedOff
  let t := (ones e.untrained).foldl State.stackLost t
  (t.repower.cause .a 7).cause .b 7

/-- Step 6 with the golden firmware; when it fails, the ROM holds BUSY and reports the check on the UART, in a form that is open (R664;
DESIGN CHOICE, log entry 105). -/
def State.startGolden (s : State) (e : StartUp) : State :=
  if firmwareCheck s.otp s.otp.goldenFirmware = .ok then s.startLate e []
  else s.drawn.mapSys (fun y => { y with boot := .failed, uart := [s.freeBits 24] :: y.uart })

/-- Step 6 begins from the boot source in effect. -/
def State.bootFrom (s : State) (e : StartUp) : State :=
  if s.rfld bRST 1 4 2 = 0 then s.startGolden e else s.mapSys (fun y => { y with boot := .host e })

/-- START_UP: after a power-on or system reset; one that follows a thermal shutdown is held until the module has cooled to 95 °C (R536).
Step 3 needs the NoC domain (R677). -/
def State.startUp (s : State) (e : StartUp) : State :=
  if s.sys.boot ≠ .reset || (s.sys.hot && decide (1520 < e.tj.toInt)) then s
  else
    let t := s.startEarly e
    if t.sys.held.contains 353 then t.mapSys (fun y => { y with boot := .held e }) else t.bootFrom e

def execStartUp (e : StartUp) (s : State) : Host.Outcome State Fault Refusal := .next (s.startUp e)

/-- RESET_RELEASE. The start-up sequence goes on when the NoC domain that it waits for is released (R677). -/
def State.released (s : State) (d : Nat) : State :=
  let t := s.releaseReset d
  match t.sys.boot with
  | .held e => if t.sys.held.contains 353 then t else t.bootFrom e
  | _ => t

def execResetRelease (n : Fin 357) (s : State) : Host.Outcome State Fault Refusal := .next (s.released n)

/-- The golden firmware boots in place of a host's (R695). -/
def State.fallBack (s : State) (e : StartUp) : State := (s.setRfld bRST 0 12 1 1).startGolden e

/-- RST_BOOTLEN_WRITE: the first length on a permitted port is taken, and the image of that length is checked. -/
def State.bootLength (s : State) (p : Port) (v : Word) : State :=
  match s.sys.boot with
  | .host e =>
    if !s.bootPort p then s
    else
      let n := fld v 0 22
      let b := sget [] s.sys.staged 5
      let img := (b ++ List.replicate (n - b.length) 0).take n
      let t := s.mapSys (fun y => { y with staged := sdel y.staged 5 })
      if firmwareCheck t.otp img = .ok then t.startLate e img else t.fallBack e
  | _ => s

def execRstBootlenWrite (p : Port) (v : Word) (s : State) : Host.Outcome State Fault Refusal := .next (s.atPort p (.bootLength v) (fun t =>
  t.bootLength p v))

/-! ### The BAR writes that a wake lets go (R692) -/

/-- The effect of a BAR write that was held. -/
def State.land1 (s0 : State) (e : Port × BarWrite) : State :=
  let p := e.1
  let s := s0.barSpend p (s0.writeTarget p e.2)
  match e.2 with
  | .register blk off w => s.barRegister p blk off w
  | .request v => s.bellReq p v
  | .head ev v => s.bellHead p ev v
  | .toSequencer v => s.bellSeq p v
  | .toPeer v => s.bellPeer p v
  | .istat v => s.clearIstat p v
  | .semaphore n v tie => s.semWrite p n v tie
  | .memory off d => s.bar2Write p off d
  | .bank own n v => s.bankWindow p own true n v
  | .diag off v => s.diag p true off v
  | .bootLength v => s.bootLength p v

/-- The writes of a list take effect in order; one that the network still holds waits, and the later ones of its port behind it. -/
def State.landAll (s : State) (l : List (Port × BarWrite)) : State :=
  match l with
  | [] => s
  | e :: r =>
    if s.barHeld e.1 (s.writeTarget e.1 e.2) then (s.mapSys (fun y => { y with posted := y.posted ++ [e] })).landAll r
    else (s.land1 e).landAll r

/-- Outside SLEEP the writes held at the ports take effect, in the order in which they came (DEDUCED, log entry 38). -/
def State.landPosted (s : State) : State :=
  if s.sys.mode = .sleep then s else (s.mapSys (fun y => { y with posted := [] })).landAll s.sys.posted

def execModeTransitionComplete (s : State) : Host.Outcome State Fault Refusal := .next s.transitionDone.landPosted

/-- BOOT_TIMEOUT: 10 s without a length. -/
def State.bootTimeout (s : State) : State :=
  match s.sys.boot with
  | .host e => (s.mapSys (fun y => { y with staged := sdel y.staged 5 })).fallBack e
  | _ => s

def execBootTimeout (s : State) : Host.Outcome State Fault Refusal := .next s.bootTimeout

/-! ### The tick of 1 µs (R438) -/

/-- One always-on tick with no command: leases run, firmware looks at what it waits for, and what waits to enter the network goes on (DESIGN
CHOICE, log entry 2). -/
def State.microsecond (s : State) : State := (s.leaseTick.paramsPoll).resetPoll.leaveTree.pumpAll.landPosted


end Sys2Proof.Machine
end

