-- ==== Sys2Proof/Machine/Faults.lean ====
section
/-! DEFINITION. What the fault manager does: tile-row repair, sequencer faults, checkpoint restarts, and the takeover of a failed
service core (03, 11, 19). -/

namespace Sys2Proof.Machine

/-! ### Checkpoint restart (R699 to R701) -/

/-- The sequencer, its array unit and the PE registers after the restart step; the program waits for the first beat. -/
def State.restartStep (s : State) : State :=
  let t := s.coreArray.mapCv (fun c => c.clearRegs (BitVec.allOnes 272))
  let t := t.mapSeq (fun q => match s.sys.checkpoint with
    | some (pc, tag, world, priv) =>
      { q.core with pc := pc, world := world, priv := priv, frameWorlds := [world], rst := true, rstart := tag }
    | none => { q.atEntry s.sys.entry with rst := true, rstart := 0 })
  t.mapSys (fun y => { y with restart := true })

/-- After a recovery: in RUN the restart, unless another report waits (R698) or the Canvas is out of service (R97); in another mode
nothing follows. -/
def State.recovered (s : State) : State :=
  if lrows s.cv.failed = 0 then s
  else if s.sys.mode = .run then (if s.sys.faults.isEmpty then s.restartStep else s) else s.recoveryOver

/-- CHECKPOINT_RESTART: the beat that begins first after the restart step, which waits for BEATCLK (R701). -/
def State.checkpointRestart (s : State) : State := if s.restartDue && s.tim.present then s.beatEdge id else s

def execCheckpointRestart (s : State) : Host.Outcome State Fault Refusal := .next s.checkpointRestart

/-! ### Sequencer faults (R672, R702) -/

/-- The oldest report is handled. -/
def State.dropFaults (s : State) (p : Fault1 → Bool) : State := s.mapSys (fun y => { y with faults := y.faults.filter (fun f => !p f) })

def Fault1.isSeq (f : Fault1) : Bool := match f with | .sequencer _ _ => true | _ => false

/-- R702: a second fault in a run before any further CHKPT ends it. -/
def State.seqGivesUp (s : State) (cause : Nat) (memory : Bool) : State :=
  let st : Status := if memory then .uncorrectable else .wrongMode
  let t := s.coreArray.mapCv (fun c => { c.clearRegs (BitVec.allOnes 272) with side := [] })
  ((t.toEntry).endRun st).notice 0x04 cause st 0

/-- SEQUENCER_FAULT: the fault manager requests a core reset that keeps RUN, and a checkpoint restart. -/
def State.sequencerFault (s : State) : State :=
  match s.functionUp 3, s.sys.faults with
  | true, .sequencer cause memory :: _ =>
    let t := ((s.dropFaults Fault1.isSeq).setRfld bRST 0 6 1 1).cutCommands
    if lrows s.cv.failed = 0 then t
    else if s.sys.mode ≠ .run then t.coreReset.recoveryOver
    else
      let t := t.mapSys (fun y => { y with cores := List.replicate 4 Core.reset })
      if s.sys.faulted then t.seqGivesUp cause memory
      else ((t.mapSys (fun y => { y with faulted := true })).mapCv (fun c => { c with side := [] })).recovered
  | _, _ => s

def execSequencerFault (s : State) : Host.Outcome State Fault Refusal := .next s.sequencerFault

/-! ### Tile rows (R90 to R97, R472, R473, R703 to R707, R714, R715) -/

def Fault1.inRow (f : Fault1) (r : Nat) : Bool := match f with | .tile x _ => x == r | _ => false

/-- R96: a placement uses logical tile row 15. -/
def Placement.usesTop (p : Placement) : Bool := p.units.any (fun u => 960 < u.y0 + u.h)

/-- The placement's tiles are on, but for those that lost their power: in ARMED and RUN, and in CONFIGURE once tiles have been switched on
(R511, R687). -/
def State.tilesOn (s : State) : Bool :=
  s.sys.mode = .armed || s.sys.mode = .run || (s.sys.mode = .configure && s.cv.power ||| s.cv.lost != 0)

/-- A logical tile is powered, or is to be under the placement although its tile has just lost its power (R471, R697). -/
def State.tileLive (s : State) (l : Nat) : Bool :=
  (s.tilesOn && s.usedTile l) || (match physTile s.cv.failed l with | some x => (s.cv.power ||| s.cv.lost).getLsbD x | none => false)

/-- The live logical tiles of `s` that lie on another physical tile now. -/
def State.movedTile (s t : State) (l : Nat) : Bool :=
  s.tileLive l && (physTile s.cv.failed l).isSome && (physTile t.cv.failed l).isSome && physTile t.cv.failed l != physTile s.cv.failed l

/-- The side writes that waiting tiles still need start again on their new physical tiles (R714). -/
def State.moveSides (s t : State) : State :=
  match t.sys.params with
  | none => t
  | some m =>
    let mv := m.waiting.filter (fun e => s.movedTile t e.1)
    let fresh := mv.flatMap (fun e => match physTile t.cv.failed e.1 with
      | some x => (e.2.2.zipIdx).map (fun y => (⟨x, true, e.2.1 + y.2, y.1⟩ : Side))
      | none => [])
    let stay (d : Side) : Bool := !(d.write && mv.any (fun e => physTile s.cv.failed e.1 == some d.tile))
    t.mapCv (fun c => { c with side := c.side.filter stay ++ fresh })

/-- Steps 3 and 4 of R703 for a placement that stays: the live logical tiles are powered on their new physical tiles, and no other
tile; the user area of moved ones is unpredictable, and their flag slot 0 (R25, R705). -/
def State.rehouse (s t : State) : State :=
  let dst := t.physSet (s.movedTile t)
  let u := t.mapCv (fun c => { (c.powerTiles (t.physSet s.tileLive) false).zeroMem dst with lost := 0 })
  let e := tilesPlane dst
  s.moveSides ((u.freeField dst e 0 1904).freeField dst e 2048 1920)

/-- The tiles that the descriptor of a failed row lists, where the placement's tiles are on (R471, R472). -/
def State.listed (s : State) (row : Nat) : List Nat :=
  if s.tilesOn then
    (s.sof.lower.descriptors.filter (fun d => d.row == row)).flatMap (fun d => d.moved.map (·.1))
  else []

/-- Step 5 of R703: the tiles that the descriptor lists take their ingress tables and kept planes. -/
def State.reload (s t : State) (row : Nat) : State :=
  let u := (s.rehouse t).writeImages (fun l => (s.listed row).contains l)
  if (s.listed row).isEmpty then u else u.chainParam

/-- R706: both copies of a listed tile's table or image fail. -/
def State.imagesGone (s : State) (row : Nat) : Bool := (s.listed row).any (fun l => (s.tileCopies l).isNone)

/-- The event that ends the handling of a tile fault (R622). -/
def State.tileEvent (s : State) (row col : Nat) (st : Status) : State := s.notice 0x02 row st (bTCC + col)

/-- R97: no row assignment is left: the run is over, one that was accepted does not begin, every tile is gated, and the mode is what it
was. -/
def State.outOfService (s : State) (row col : Nat) : State :=
  let t := (s.mapCv (fun c => c.powerTiles 0 false)).mapSys (fun y => { y with accepted := none })
  let t := if s.sys.mode = .run then (t.closeRun .ok).mapSeq (fun q => { q with stopped := true }) else t
  (t.mapOut (fun o => { o with fault := true })).tileEvent row col .ok

/-- What the sorting office places again with (R473): the placement's own map and sections, and the parameters last used. -/
def State.replaceInput (s : State) (p : Placement) : PlaceInput :=
  { w0 := s.sof.lastW0, w1 := s.sof.lastW1, rows := lrows s.cv.failed, map := p.map, stencilSec := p.stencilSec, keptSec := p.keptSec }

/-- R707: the run ends, PLACE runs on 15 logical tile rows, and its result is committed; without one the placement is withdrawn.
Tiles that carry no logical row are off afterwards (R25), and parts of a LOAD_PARAMS on moved tiles start again (R714). `before` is the
state under the old row assignment. -/
def State.replaced (before s : State) (p : Placement) (row col : Nat) : State :=
  let (r, reason, item, pc) := (s.replaceInput p).solve
  let st : Status := if r.isSome then .ok else .noPlacement
  let t := if s.sys.mode = .run then s.toEntry.endRun st else s
  let t := t.mapSys (fun y => { y with accepted := none })
  let t := if s.tilesOn then t.mapCv (fun c => { c.powerTiles (t.physSet t.inServiceTile) false with lost := 0 }) else t
  let t := t.sorted
  let u := match r with
    | some n =>
      let u := (t.usePlacement n).sofDone 3 .ok 0 0
      if u.sys.mode = Mode.armed then u.arm else if u.sys.mode = Mode.configure then u.placeTiles else u
    | none =>
      let u : State := { t.withdraw with sof := { t.withdraw.sof with failPostcode := BitVec.ofNat 24 pc } }
      (u.sofDone 3 .noPlacement reason item).mapSys (fun y => { y with noPlacement := true })
  ((before.moveSides (u.mapCv (fun c => c.powerTiles (c.power &&& u.physSet u.inServiceTile) false))).tileEvent row col st).recoveryOver

/-- SOF_STATUS after a repair with a placement in effect (R472, R474). -/
def State.repairDone (s : State) (st : Status) : State := if s.sof.effect.isSome then s.describe.sofDone 2 st 0 0 else s

/-- Steps 3 to 7 of R703 for a placement that stays, in one step (R704; DEDUCED, log entry 122); R706 where no copy can be read: the run
ends, in ARMED. -/
def State.reloaded (s t : State) (row col : Nat) : State :=
  if s.imagesGone row then
    let u := (s.rehouse t).repairDone .uncorrectable
    let u := if s.sys.mode = .run then u.toEntry.endRun .uncorrectable else u
    (u.tileEvent row col .uncorrectable).recoveryOver
  else (((s.reload t row).repairDone .ok).tileEvent row col .ok).recovered

/-- TILE_ROW_REPAIR: the oldest report is a tile's; its row leaves service. -/
def State.repair (s : State) : State :=
  match s.functionUp 3, s.sys.faults with
  | true, .tile row col :: _ =>
    let t := s.dropFaults (fun f => f.inRow row)
    if s.cv.failed.contains row then t.recovered
    else
      let t := t.abortPlace.abortCommit.drain
      let u := (t.mapCv (fun c => { c with failed := c.failed ++ [row] }))
      let u := u.notice 0x06 (geomState u.cv.failed) .ok bCGM
      if lrows u.cv.failed = 0 then u.outOfService row col
      else match u.sof.effect with
        | some p => if u.cv.failed.length = 2 && p.usesTop then t.replaced u p row col else t.reloaded u row col
        | none => t.reloaded u row col
  | _, _ => s

def execTileRowRepair (s : State) : Host.Outcome State Fault Refusal := .next s.repair

/-- TILE_POWER_GOOD_LOSS: a tile domain loses its power and what it held, and a tile fault is reported (R697). -/
def State.tileLost (s : State) (t : Nat) : State :=
  let one := BitVec.ofNat 272 (2 ^ t)
  (s.mapCv (fun c => { (c.clearRegs one).zeroMem one with
    power := setBit c.power t false, zeroing := setBit c.zeroing t false, lost := c.lost ||| (c.power &&& one) })).report
    (.tile (t / 16) (t % 16))

def execTilePowerGoodLoss (n : Fin 272) (s : State) : Host.Outcome State Fault Refusal := .next (s.tileLost n)

/-! ### Service cores (R16, R708 to R711) -/

/-- R710: a command that lists parts, with parts that were not finished. -/
def timedOut (args : List Nat) : List (Nat × Status) :=
  (args.zipIdx).filterMap (fun e => if e.1 = 0xFF then none else some (e.2, if e.1 = 0 then .timeout else Status.ofCode e.1))

/-- R710: tiles of a LOAD_PARAMS that are not complete report TIMEOUT. -/
def State.paramsCut (s : State) : State :=
  match s.sys.params with
  | none => s
  | some m =>
    let stay (d : Side) : Bool :=
      !(d.write && m.waiting.any (fun e => physTile s.cv.failed e.1 == some d.tile && s.sideLeft e == m.count))
    let t := s.mapCv (fun c => { c with side := c.side.filter stay })
    (t.mapSys (fun y => { y with params := some { m with
      waiting := [], done := m.done ++ m.waiting.map (fun e => (e.1, .timeout)) } })).paramsEnd

/-- One command in progress when the command interpreter fails. COMMIT and PLACE are run again, with the same outcome (R456). -/
def State.jobCut (s : State) (j : Job) : State :=
  if j.op = 0x11 || j.op = 0x12 || j.op = 0x14 then s
  else if j.op = 0x63 then
    let r := timedOut j.args
    (s.mapSys (fun y => { y with wipe := none })).finish j (partsStatus r).1 (partsStatus r).2 (partsPayload j.w0 r [])
  else if j.op = 0x7F then
    let r := timedOut j.args
    (s.mapSys (fun y => { y with clears := y.clears.map (fun e => (e.1, none)) })).finish j (partsStatus r).1 (partsStatus r).2
      (partsPayload j.w0 r [])
  else if j.op = 0x70 then s.resetTimeout
  else s.finish j .timeout 0 []

/-- A COMMIT whose Tweed load is under way begins it again. -/
def State.commitAgain (s : State) : State :=
  match s.tw.load with
  | some l => if l.reload || s.sys.commit.isNone then s else s.startLoad { l with next := 0, passed := false }
  | none => s

/-- Core `n` fails: its domain goes off after the closing procedure (R709), and its standby takes its function over, once before a system reset; a second failure leaves the watchdog
unserviced (R711). -/
def State.coreFailed (s : State) (n : Nat) : State :=
  if !s.sys.coresUp.getLsbD n then s
  else
    let t := (s.mapSys (fun y => { y with coresUp := setBit y.coresUp n false })).gateOff (348 + n)
    if s.sys.takenOver then t
    else
      let t := t.mapSys (fun y => { y with takenOver := true, runBy := y.runBy.set n ((n + 1) % 4) })
      let t := t.notice 0x0A n .ok 0
      let t := if n < 2 then t.paramsCut else t
      if n = 0 then ((t.sys.pa.jobs ++ t.sys.pb.jobs).foldl State.jobCut t).commitAgain else t

def execHeartbeatMissed (n : Fin 4) (s : State) : Host.Outcome State Fault Refusal := .next (s.coreFailed n)
def execServiceCoreUncorrectableError (n : Fin 4) (s : State) : Host.Outcome State Fault Refusal := .next (s.coreFailed n)

end Sys2Proof.Machine
end

