-- ==== Sys2Proof/Machine/ArrayInstr.lean ====
section
/-! DEFINITION. The array macros as instructions: dispatch (R193, R194, R198), and the events of the array unit and the
broadcast pipeline. -/

namespace Sys2Proof.Machine

/-- Specifiers of the registers a macro reads at dispatch. -/
def macroSrcs (op : Nat) (w : BitVec 40) : List Nat :=
  (macroFields op w).1.map (fun e => 32 + e.1) ++ (if (macroFields op w).2.isSome then [32 + fAd w] else [])
    ++ (if op = 0x94 then [fA8 w % 64] else [])

/-- R193, R276, R350: the macro enters the array unit, which is free. -/
def State.dispatchMacro (s : State) (op : Nat) (w : BitVec 40) : State :=
  let m := s.seq.macro op w
  (s.mapArr (fun a => { a with
    run := some m.start,
    susp := a.susp.map (fun r => if m.level && spoils m r.mac then { r with spoiled := true } else r) })).mapSeq
    (fun q => { q with wait := if m.checked then .check else .none })

/-- R194, R268: array cycles until the array unit has issued every word it holds, or an interrupt or a fault comes first. -/
def State.untilDispatch (s : State) : State :=
  s.tickUntil (fun u => !u.arr.busy || !u.running || u.interruptDue.isSome) longest

/-- R194: an array macro at its issue: it dispatches in the cycle in which the array unit issues its last earlier word; an interrupt
taken at a safe point before that finds it not yet issued. -/
def State.macroInstr (s : State) (op : Nat) (w : BitVec 40) : State :=
  s.instr (macroSrcs op w)
    (fun t => (if macroIllegal op w then [0x01] else []) ++ (if macroMisplaced t.seq op w then [0x0D] else []))
    (fun t =>
      let u := t.tick.untilDispatch
      if u.arr.busy || !u.running then u.takeDue else (u.dispatchMacro op w).retire 0)

/-- AADD (R198). -/
def execAadd (w : BitVec 40) (s : State) : Host.Outcome State Fault Refusal :=
  .next (s.macroInstr 0x80 w)
/-- ASUB (R198). -/
def execAsub (w : BitVec 40) (s : State) : Host.Outcome State Fault Refusal :=
  .next (s.macroInstr 0x81 w)
/-- ACMP (R198). -/
def execAcmp (w : BitVec 40) (s : State) : Host.Outcome State Fault Refusal :=
  .next (s.macroInstr 0x82 w)
/-- ANEG (R198). -/
def execAneg (w : BitVec 40) (s : State) : Host.Outcome State Fault Refusal :=
  .next (s.macroInstr 0x83 w)
/-- AABS (R198). -/
def execAabs (w : BitVec 40) (s : State) : Host.Outcome State Fault Refusal :=
  .next (s.macroInstr 0x84 w)
/-- AMULU (R198). -/
def execAmulu (w : BitVec 40) (s : State) : Host.Outcome State Fault Refusal :=
  .next (s.macroInstr 0x85 w)
/-- AMULS (R198). -/
def execAmuls (w : BitVec 40) (s : State) : Host.Outcome State Fault Refusal :=
  .next (s.macroInstr 0x86 w)
/-- ADIVU (R198). -/
def execAdivu (w : BitVec 40) (s : State) : Host.Outcome State Fault Refusal :=
  .next (s.macroInstr 0x87 w)
/-- AREMU (R198). -/
def execAremu (w : BitVec 40) (s : State) : Host.Outcome State Fault Refusal :=
  .next (s.macroInstr 0x88 w)
/-- ADIVS (R198). -/
def execAdivs (w : BitVec 40) (s : State) : Host.Outcome State Fault Refusal :=
  .next (s.macroInstr 0x89 w)
/-- AREMS (R198). -/
def execArems (w : BitVec 40) (s : State) : Host.Outcome State Fault Refusal :=
  .next (s.macroInstr 0x8A w)
/-- ASHL (R198). -/
def execAshl (w : BitVec 40) (s : State) : Host.Outcome State Fault Refusal :=
  .next (s.macroInstr 0x8B w)
/-- ASHR (R198). -/
def execAshr (w : BitVec 40) (s : State) : Host.Outcome State Fault Refusal :=
  .next (s.macroInstr 0x8C w)
/-- ASAR (R198). -/
def execAsar (w : BitVec 40) (s : State) : Host.Outcome State Fault Refusal :=
  .next (s.macroInstr 0x8D w)
/-- ASAL (R198). -/
def execAsal (w : BitVec 40) (s : State) : Host.Outcome State Fault Refusal :=
  .next (s.macroInstr 0x8E w)
/-- AROL (R198). -/
def execArol (w : BitVec 40) (s : State) : Host.Outcome State Fault Refusal :=
  .next (s.macroInstr 0x8F w)
/-- AROR (R198). -/
def execAror (w : BitVec 40) (s : State) : Host.Outcome State Fault Refusal :=
  .next (s.macroInstr 0x90 w)
/-- AMOV (R198). -/
def execAmov (w : BitVec 40) (s : State) : Host.Outcome State Fault Refusal :=
  .next (s.macroInstr 0x91 w)
/-- ABOOL2 (R198). -/
def execAbool2 (w : BitVec 40) (s : State) : Host.Outcome State Fault Refusal :=
  .next (s.macroInstr 0x92 w)
/-- ABOOL3 (R198). -/
def execAbool3 (w : BitVec 40) (s : State) : Host.Outcome State Fault Refusal :=
  .next (s.macroInstr 0x93 w)
/-- ABCAST (R198). -/
def execAbcast (w : BitVec 40) (s : State) : Host.Outcome State Fault Refusal :=
  .next (s.macroInstr 0x94 w)
/-- AFADD.32 (R198). -/
def execAfadd_32 (w : BitVec 40) (s : State) : Host.Outcome State Fault Refusal :=
  .next (s.macroInstr 0xA0 w)
/-- AFADD.64 (R198). -/
def execAfadd_64 (w : BitVec 40) (s : State) : Host.Outcome State Fault Refusal :=
  .next (s.macroInstr 0xA8 w)
/-- AFSUB.32 (R198). -/
def execAfsub_32 (w : BitVec 40) (s : State) : Host.Outcome State Fault Refusal :=
  .next (s.macroInstr 0xA1 w)
/-- AFSUB.64 (R198). -/
def execAfsub_64 (w : BitVec 40) (s : State) : Host.Outcome State Fault Refusal :=
  .next (s.macroInstr 0xA9 w)
/-- AFMUL.32 (R198). -/
def execAfmul_32 (w : BitVec 40) (s : State) : Host.Outcome State Fault Refusal :=
  .next (s.macroInstr 0xA2 w)
/-- AFMUL.64 (R198). -/
def execAfmul_64 (w : BitVec 40) (s : State) : Host.Outcome State Fault Refusal :=
  .next (s.macroInstr 0xAA w)
/-- AFMA.32 (R198). -/
def execAfma_32 (w : BitVec 40) (s : State) : Host.Outcome State Fault Refusal :=
  .next (s.macroInstr 0xA3 w)
/-- AFMA.64 (R198). -/
def execAfma_64 (w : BitVec 40) (s : State) : Host.Outcome State Fault Refusal :=
  .next (s.macroInstr 0xAB w)
/-- AFDIV.32 (R198). -/
def execAfdiv_32 (w : BitVec 40) (s : State) : Host.Outcome State Fault Refusal :=
  .next (s.macroInstr 0xA4 w)
/-- AFDIV.64 (R198). -/
def execAfdiv_64 (w : BitVec 40) (s : State) : Host.Outcome State Fault Refusal :=
  .next (s.macroInstr 0xAC w)
/-- AFSQRT.32 (R198). -/
def execAfsqrt_32 (w : BitVec 40) (s : State) : Host.Outcome State Fault Refusal :=
  .next (s.macroInstr 0xA5 w)
/-- AFSQRT.64 (R198). -/
def execAfsqrt_64 (w : BitVec 40) (s : State) : Host.Outcome State Fault Refusal :=
  .next (s.macroInstr 0xAD w)
/-- AFCMP.32 (R198). -/
def execAfcmp_32 (w : BitVec 40) (s : State) : Host.Outcome State Fault Refusal :=
  .next (s.macroInstr 0xA6 w)
/-- AFCMP.64 (R198). -/
def execAfcmp_64 (w : BitVec 40) (s : State) : Host.Outcome State Fault Refusal :=
  .next (s.macroInstr 0xAE w)
/-- AFCVT (R198). -/
def execAfcvt (w : BitVec 40) (s : State) : Host.Outcome State Fault Refusal :=
  .next (s.macroInstr 0xAF w)
/-- ASHIFT (R198). -/
def execAshift (w : BitVec 40) (s : State) : Host.Outcome State Fault Refusal :=
  .next (s.macroInstr 0xB0 w)
/-- AGATH (R198). -/
def execAgath (w : BitVec 40) (s : State) : Host.Outcome State Fault Refusal :=
  .next (s.macroInstr 0xB1 w)
/-- AGATHOR (R198). -/
def execAgathor (w : BitVec 40) (s : State) : Host.Outcome State Fault Refusal :=
  .next (s.macroInstr 0xB2 w)
/-- AGSET (R198). -/
def execAgset (w : BitVec 40) (s : State) : Host.Outcome State Fault Refusal :=
  .next (s.macroInstr 0xB8 w)
/-- AGNZ (R198). -/
def execAgnz (w : BitVec 40) (s : State) : Host.Outcome State Fault Refusal :=
  .next (s.macroInstr 0xB9 w)
/-- AGCLR (R198). -/
def execAgclr (w : BitVec 40) (s : State) : Host.Outcome State Fault Refusal :=
  .next (s.macroInstr 0xBA w)
/-- AGDLV (R198). -/
def execAgdlv (w : BitVec 40) (s : State) : Host.Outcome State Fault Refusal :=
  .next (s.macroInstr 0xBB w)
/-- AMSET (R198). -/
def execAmset (w : BitVec 40) (s : State) : Host.Outcome State Fault Refusal :=
  .next (s.macroInstr 0xBC w)
/-- AMALL (R198). -/
def execAmall (w : BitVec 40) (s : State) : Host.Outcome State Fault Refusal :=
  .next (s.macroInstr 0xBD w)
/-- AMNOT (R198). -/
def execAmnot (w : BitVec 40) (s : State) : Host.Outcome State Fault Refusal :=
  .next (s.macroInstr 0xBE w)
/-- AMAND (R198). -/
def execAmand (w : BitVec 40) (s : State) : Host.Outcome State Fault Refusal :=
  .next (s.macroInstr 0xBF w)
/-- AIN (R198). -/
def execAin (w : BitVec 40) (s : State) : Host.Outcome State Fault Refusal :=
  .next (s.macroInstr 0xC0 w)
/-- AOUT (R198). -/
def execAout (w : BitVec 40) (s : State) : Host.Outcome State Fault Refusal :=
  .next (s.macroInstr 0xC1 w)
/-- ATAKE (R198). -/
def execAtake (w : BitVec 40) (s : State) : Host.Outcome State Fault Refusal :=
  .next (s.macroInstr 0xC2 w)
/-- APOST (R198). -/
def execApost (w : BitVec 40) (s : State) : Host.Outcome State Fault Refusal :=
  .next (s.macroInstr 0xC3 w)
/-- AFCLR (R198). -/
def execAfclr (w : BitVec 40) (s : State) : Host.Outcome State Fault Refusal :=
  .next (s.macroInstr 0xC4 w)
/-- AFMOV (R198). -/
def execAfmov (w : BitVec 40) (s : State) : Host.Outcome State Fault Refusal :=
  .next (s.macroInstr 0xC5 w)
/-- ASIDE (R198). -/
def execAside (w : BitVec 40) (s : State) : Host.Outcome State Fault Refusal :=
  .next (s.macroInstr 0xC6 w)

/-! ### Events of the array unit -/

/-- MICRO_WORD (R281): one array cycle: the micro-sequencer issues one word, or the sequencer an idle word. -/
def execMicroWord (s : State) : Host.Outcome State Fault Refusal := .next s.tick

/-- An early-out scan is under way: its result has not landed. -/
def State.scanning (s : State) : Bool :=
  match s.arr.run with
  | some r => if r.patched then !r.scans.isEmpty else r.mac.early && r.total.isNone
  | none => false

/-- SCAN_RESULT (R295, R341): array cycles until the result of the scan lands; nothing without a scan. -/
def execScanResult (s : State) : Host.Outcome State Fault Refusal :=
  .next (s.tickUntil (fun t => !t.scanning) 2048)

/-- R350: the result of the check's last flag word has landed. -/
def State.checkLanded (s : State) : Bool :=
  match s.arr.check with
  | some c => s.arr.inject.isEmpty && s.arr.run.isNone &&
      (match c.flagWords.getLast? with | some t => t + 48 ≤ s.cycle | none => false)
  | none => false

/-- R351: the enabled flags that the check found set. -/
def State.checkFlags (s : State) (c : Check) : BitVec 5 :=
  (((ones c.aen).zip c.flagWords).filter (fun e =>
    match s.red.gor.find? (fun g => g.1 == e.2) with
    | some g => g.2.2
    | none => false)).foldl (fun f e => setBit f e.1 true) 0

/-- R351: the outcome of a check that has landed: execution continues, or trap 0x0B. Of a repeated macro with iterations left, D8 is the
macro's own address and D12 the count without the iteration just completed (DESIGN CHOICE, log entry 120). -/
def State.resolveCheck (s : State) (c : Check) : State :=
  let f := s.checkFlags c
  let t := (s.mapArr (fun a => { a with check := none })).mapSeq (fun q => { q with
    wait := .none, freeAt := s.cycle, fpcsr := if f = 0 then q.fpcsr else setFld q.fpcsr 17 5 f.toNat })
  let at_ := if t.seq.rptc = 0 then t.seq.pc - 1 else t.seq.pc
  if f = 0 then t
  else if t.seq.tw then t.haltFault 0x0B at_
  else t.enterTrap t.cycle 0x0B none t.seq.world t.seq.pc at_ false

/-- ARRAY_FP_CHECK_RESULT (R348 to R351): the hold after a macro with a check tail ends; nothing where none holds. An interrupt that may
be taken at a safe point inside the macro ends the wait there (R268, R354). -/
def State.checkResult (s : State) : State :=
  if s.running && s.seq.wait == .check then
    let t := s.tickUntil (fun u => u.checkLanded || u.interruptDue.isSome || !u.running) longest
    match t.arr.check with
    | some c => if t.checkLanded then t.resolveCheck c else t.takeDue
    | none => t.takeDue
  else s

def execArrayFpCheckResult (s : State) : Host.Outcome State Fault Refusal := .next s.checkResult

/-- A macro word waits in the pipeline. -/
def State.wordWaits (s : State) : Bool := s.arr.pipe.any (fun p => nVALID p.bits)

/-- Whether the pipeline's head is a macro word that executes in this cycle (R136). -/
def State.wordDue (s : State) : Bool :=
  match s.arr.pipe with
  | p :: _ => nVALID p.bits && p.issued + 12 ≤ s.cycle
  | [] => false

/-- NANO_WORD (R37, R136): array cycles up to and including the one in which the next macro word executes; nothing where
none is in the pipeline. -/
def execNanoWord (s : State) : Host.Outcome State Fault Refusal :=
  .next (if s.wordWaits then (s.tickUntil State.wordDue 32).tick else s)

/-- TALLY_CAPTURE (R112): array cycles up to and including the one in which the oldest capture in flight lands. -/
def execTallyCapture (s : State) : Host.Outcome State Fault Refusal :=
  .next (match s.red.tally with
    | e :: _ => (s.ticks (e.1 + 64 - s.cycle)).tick
    | [] => s)
/-- REGION_CAPTURE (R117). -/
def execRegionCapture (s : State) : Host.Outcome State Fault Refusal :=
  .next (match s.red.region with
    | e :: _ => (s.ticks (e.1 + 32 - s.cycle)).tick
    | [] => s)
/-- FLAG_GROUP_DELIVERY (R110). -/
def execFlagGroupDelivery (s : State) : Host.Outcome State Fault Refusal :=
  .next (match s.red.deliver with
    | e :: _ => (s.ticks (e.1 + 48 - s.cycle)).tick
    | [] => s)

end Sys2Proof.Machine
end

