-- ==== Sys2Proof/Machine/FloatScalar.lean ====
section
/-! DEFINITION. The scalar floating-point instructions (R186, R187, R321 to R337). -/

namespace Sys2Proof.Machine

/-- R336: the scalar sticky flags take the exceptions raised. -/
def Seq.raise (q : Seq) (f : BitVec 5) : Seq := { q with fpcsr := q.fpcsr ||| (f.setWidth 22 <<< 2) }

/-- R337: the trap of the lowest enabled exception raised. -/
def fpTrap (q : Seq) (f : BitVec 5) : Option Nat :=
  ((List.range 5).find? (fun i => f.getLsbD i && (q.fpcsr.getLsbD (7 + i)))).map (6 + ·)

/-- A scalar floating-point instruction: its exceptions set SFLAG; an enabled one traps and writes nothing; else `write`
takes the result and the instruction takes `n` issue cycles. -/
def State.fpInstr (s : State) (srcs : List Nat) (ok : Bool) (n : Nat) (f : Seq → Fr) (write : Seq → Nat → Seq) : State :=
  s.instr srcs (fun _ => if ok then [] else [0x01]) (fun t =>
    let r := f t.seq
    let u := t.mapSeq (fun q => q.raise r.flags)
    match fpTrap t.seq r.flags with
    | some c => u.trap c
    | none => (u.mapSeq (fun q => write q r.bits)).retire n)

/-- The value an accumulator holds in a format (R162). -/
def fpIn (double : Bool) (q : Seq) (r : Nat) : Nat := if double then (acF64 q r).toNat else (acF32 q r).toNat
def fmtOf (double : Bool) : Fmt := if double then f64 else f32

/-- R162: a result fills the accumulator, its upper bits 0. -/
def fpOut (d : Nat) (q : Seq) (x : Nat) : Seq := acTo q d (BitVec.ofNat 72 x)

/-- Source registers of operation `k` of R186. -/
def fpSrcs (k : Nat) (w : BitVec 40) : List Nat :=
  fRs1 w :: ((if k = 5 then [] else [fRs2 w]) ++ (if k = 3 then [fRs3 w] else []))

/-- Operation `k` of R186 (0 FADD, 1 FSUB, 2 FMUL, 3 FMA, 4 FDIV, 5 FSQRT) in `n` issue cycles. -/
def State.fpArith (s : State) (w : BitVec 40) (double : Bool) (k n : Nat) : State :=
  s.fpInstr (fpSrcs k w)
    (legalRRR isAC isAC (if k = 5 then unused else isAC) (if k = 3 then isAC else unused) w) n
    (fun q => fpOp (fmtOf double) (fld q.fpcsr 0 2) k (fpIn double q (fRs1 w)) (fpIn double q (fRs2 w))
      (fpIn double q (fRs3 w))) (fpOut (fRd w))

/-- FADD.32. -/
def execFadd_32 (w : BitVec 40) (s : State) : Host.Outcome State Fault Refusal := .next (s.fpArith w false 0 3)
/-- FADD.64. -/
def execFadd_64 (w : BitVec 40) (s : State) : Host.Outcome State Fault Refusal := .next (s.fpArith w true 0 4)
/-- FSUB.32. -/
def execFsub_32 (w : BitVec 40) (s : State) : Host.Outcome State Fault Refusal := .next (s.fpArith w false 1 3)
/-- FSUB.64. -/
def execFsub_64 (w : BitVec 40) (s : State) : Host.Outcome State Fault Refusal := .next (s.fpArith w true 1 4)
/-- FMUL.32. -/
def execFmul_32 (w : BitVec 40) (s : State) : Host.Outcome State Fault Refusal := .next (s.fpArith w false 2 4)
/-- FMUL.64. -/
def execFmul_64 (w : BitVec 40) (s : State) : Host.Outcome State Fault Refusal := .next (s.fpArith w true 2 5)
/-- FMA.32. -/
def execFma_32 (w : BitVec 40) (s : State) : Host.Outcome State Fault Refusal := .next (s.fpArith w false 3 5)
/-- FMA.64. -/
def execFma_64 (w : BitVec 40) (s : State) : Host.Outcome State Fault Refusal := .next (s.fpArith w true 3 6)
/-- FDIV.32. -/
def execFdiv_32 (w : BitVec 40) (s : State) : Host.Outcome State Fault Refusal := .next (s.fpArith w false 4 12)
/-- FDIV.64. -/
def execFdiv_64 (w : BitVec 40) (s : State) : Host.Outcome State Fault Refusal := .next (s.fpArith w true 4 20)
/-- FSQRT.32. -/
def execFsqrt_32 (w : BitVec 40) (s : State) : Host.Outcome State Fault Refusal := .next (s.fpArith w false 5 14)
/-- FSQRT.64. -/
def execFsqrt_64 (w : BitVec 40) (s : State) : Host.Outcome State Fault Refusal := .next (s.fpArith w true 5 24)

/-- R182: SEQ_CR after FCMP; D is unchanged. -/
def fcmpCr (old : BitVec 5) (o : Cmp) : BitVec 5 :=
  match o with
  | .less => mkCr (crD old) true false false false
  | .equal => mkCr (crD old) false true true false
  | .greater => mkCr (crD old) false false true false
  | .unordered => mkCr (crD old) false false false true

/-- FCMP in a format. -/
def State.fpCompare (s : State) (w : BitVec 40) (double : Bool) : State :=
  let v (q : Seq) (r : Nat) : Fv := unpack (fmtOf double) (fpIn double q r)
  s.fpInstr [fRs1 w, fRs2 w] (legalRRR unused isAC isAC unused w) 1
    (fun q => { bits := 0, flags := cmpFlags (v q (fRs1 w)) (v q (fRs2 w)) })
    (fun q _ => { q with cr := fcmpCr q.cr (cmpFv (v q (fRs1 w)) (v q (fRs2 w))) })

/-- FCMP.32 (R182). -/
def execFcmp_32 (w : BitVec 40) (s : State) : Host.Outcome State Fault Refusal := .next (s.fpCompare w false)
/-- FCMP.64 (R182). -/
def execFcmp_64 (w : BitVec 40) (s : State) : Host.Outcome State Fault Refusal := .next (s.fpCompare w true)

/-- R187: the source and destination classes of an FCVT op, and whether the op exists. -/
def legalCvt (w : BitVec 40) : Bool :=
  let k := fld w 0 4
  fld w 4 20 == 0 && k ≤ 9 &&
    legalRRI (if 4 ≤ k && k ≤ 7 then isDA else isAC) (if k ≤ 3 then isDA else isAC) w

/-- R187, R331, R332: the conversion. -/
def cvtOf (q : Seq) (w : BitVec 40) : Fr :=
  let rm := fld q.fpcsr 0 2
  let i := daGet q (fRs1 w)
  let a := unpack f32 (fpIn false q (fRs1 w))
  let b := unpack f64 (fpIn true q (fRs1 w))
  match fld w 0 4 with
  | 0 => fromInt f32 rm i.toInt
  | 1 => fromInt f32 rm i.toNat
  | 2 => fromInt f64 rm i.toInt
  | 3 => fromInt f64 rm i.toNat
  | 4 => toIntFv rm true 24 a
  | 5 => toIntFv rm false 24 a
  | 6 => toIntFv rm true 24 b
  | 7 => toIntFv rm false 24 b
  | 8 => convFv f64 rm a
  | _ => convFv f32 rm b

/-- FCVT (R187). -/
def execFcvt (w : BitVec 40) (s : State) : Host.Outcome State Fault Refusal :=
  .next (s.fpInstr [fRs1 w] (legalCvt w) 2 (fun q => cvtOf q w)
    (fun q x => if isAC (fRd w) then fpOut (fRd w) q x else daSet q (fRd w) (BitVec.ofNat 24 x)))

end Sys2Proof.Machine
end

