-- ==== Sys2Proof/Machine/Fetch.lean ====
section
/-! DEFINITION. The opcode columns of 05 (R164, R166, R184, R186, R188, R198), and the array program that runs by itself: the
instruction at PC, or the end of the wait that holds scalar issue. -/

namespace Sys2Proof.Machine

/-- The meaning of an instruction, given bits [39:0] of its word. -/
abbrev Meaning := BitVec 40 → State → Host.Outcome State Fault Refusal

/-- Opcodes of the integer, accumulator, load and store instructions (R170, R184). -/
def integerOps : List (Nat × Meaning) :=
  [(0x00, execNop), (0x01, execMov), (0x02, execMovi), (0x03, execAdd), (0x04, execAddi), (0x05, execSub),
   (0x06, execSubi), (0x07, execAdc), (0x08, execSbc), (0x09, execAnd_), (0x0A, execAndi), (0x0B, execOr_),
   (0x0C, execOri), (0x0D, execXor), (0x0E, execXori), (0x0F, execNot_), (0x10, execNeg), (0x11, execAbs),
   (0x12, execCmp), (0x13, execCmpi), (0x14, execShl), (0x15, execShli), (0x16, execShr), (0x17, execShri),
   (0x18, execSar), (0x19, execSari), (0x1A, execSal), (0x1B, execSali), (0x1C, execRol), (0x1D, execRoli),
   (0x1E, execRor), (0x1F, execRori), (0x20, execMull), (0x21, execMulu), (0x22, execMuls), (0x23, execMacu),
   (0x24, execMacs), (0x25, execDivu), (0x26, execDivs), (0x27, execAcrd), (0x28, execAcwr), (0x29, execAcclr),
   (0x30, execLd), (0x31, execSt), (0x32, execLdac), (0x33, execStac)]

/-- Opcodes of the scalar floating-point instructions, .32 and .64 (R186). -/
def floatOps : List (Nat × Meaning) :=
  [(0x40, execFadd_32), (0x41, execFsub_32), (0x42, execFmul_32), (0x43, execFma_32), (0x44, execFdiv_32),
   (0x45, execFsqrt_32), (0x46, execFcmp_32), (0x48, execFadd_64), (0x49, execFsub_64), (0x4A, execFmul_64),
   (0x4B, execFma_64), (0x4C, execFdiv_64), (0x4D, execFsqrt_64), (0x4E, execFcmp_64), (0x4F, execFcvt)]

/-- Opcodes of the control instructions (R188). -/
def controlOps : List (Nat × Meaning) :=
  [(0x60, execB), (0x61, execCall), (0x62, execCallr), (0x63, execJmp), (0x64, execRet), (0x65, execRetl),
   (0x66, execSave), (0x67, execRestore), (0x68, execRep), (0x69, execRepr), (0x6A, execLock), (0x6B, execUnlock),
   (0x6C, execWaitb), (0x6D, execScall), (0x6E, execSret), (0x6F, execRtt), (0x70, execHalt), (0x71, execChkpt)]

/-- Opcodes of the array macros (R198). -/
def macroOps : List (Nat × Meaning) :=
  [(0x80, execAadd), (0x81, execAsub), (0x82, execAcmp), (0x83, execAneg), (0x84, execAabs), (0x85, execAmulu),
   (0x86, execAmuls), (0x87, execAdivu), (0x88, execAremu), (0x89, execAdivs), (0x8A, execArems), (0x8B, execAshl),
   (0x8C, execAshr), (0x8D, execAsar), (0x8E, execAsal), (0x8F, execArol), (0x90, execAror), (0x91, execAmov),
   (0x92, execAbool2), (0x93, execAbool3), (0x94, execAbcast), (0xA0, execAfadd_32), (0xA1, execAfsub_32),
   (0xA2, execAfmul_32), (0xA3, execAfma_32), (0xA4, execAfdiv_32), (0xA5, execAfsqrt_32), (0xA6, execAfcmp_32),
   (0xA8, execAfadd_64), (0xA9, execAfsub_64), (0xAA, execAfmul_64), (0xAB, execAfma_64), (0xAC, execAfdiv_64),
   (0xAD, execAfsqrt_64), (0xAE, execAfcmp_64), (0xAF, execAfcvt), (0xB0, execAshift), (0xB1, execAgath),
   (0xB2, execAgathor), (0xB8, execAgset), (0xB9, execAgnz), (0xBA, execAgclr), (0xBB, execAgdlv), (0xBC, execAmset),
   (0xBD, execAmall), (0xBE, execAmnot), (0xBF, execAmand), (0xC0, execAin), (0xC1, execAout), (0xC2, execAtake),
   (0xC3, execApost), (0xC4, execAfclr), (0xC5, execAfmov), (0xC6, execAside)]

/-- The opcode tables of 05. -/
def opcodeTable : List (Nat × Meaning) := integerOps ++ floatOps ++ controlOps ++ macroOps

/-- The state that an outcome leaves; none of these meanings faults or is refused. -/
def afterOutcome (o : Host.Outcome State Fault Refusal) (s : State) : State := match o with | .next t => t | _ => s

/-- R164, R166: one instruction word is executed: the opcode in bits [47:40] picks the meaning, and one that no table lists raises
trap 0x01. -/
def State.runWord (s : State) (i : BitVec 48) : State :=
  match opcodeTable.find? (fun e => e.1 == fld i 40 8) with
  | some e => afterOutcome (e.2 (i.extractLsb' 0 40) s) s
  | none => s.instr [] (fun _ => [0x01]) id

/-- The instruction word at PC. -/
def State.wordAtPc (s : State) : BitVec 48 := sget 0 s.smem.imem s.seq.pc.toNat

/-- R119, R689: the array clock runs: the module has started and is in a mode whose Canvas works. -/
def State.arrayClocked (s : State) : Bool :=
  s.sys.boot == .done && !s.sys.shutdown && s.sys.mode != .sleep && s.sys.mode != .standby

/-- The array program goes on by one instruction, or by the end of the wait that holds it where that has come. While none runs, one
array cycle passes (DESIGN CHOICE, log entry 2). -/
def State.programStep (s : State) : State :=
  if !s.running then (if s.arrayClocked then s.tick else s)
  else
    match s.seq.wait with
    | .none => s.runWord s.wordAtPc
    | .beat => s.waitbComplete
    | .save => s.stalledSave
    | .restore => s.stalledRestore
    | .window _ _ => s.completeWindow
    | .check => s.checkResult

end Sys2Proof.Machine
end

