-- ==== Sys2Proof/Machine/Cores.lean ====
section
/-! DEFINITION. The service cores as processors (R14, R157, R709): each holds a VQ24 context and executes its firmware's
instructions. What firmware does to the rest of the module are the commands of the other families. -/

namespace Sys2Proof.Machine

/-- R157: the opcodes that a service core executes as illegal instructions: LOCK, UNLOCK, WAITB, CHKPT and every array macro. -/
def coreRefuses (op : Nat) : Bool := op = 0x6A || op = 0x6B || op = 0x6C || op = 0x71 || 0x80 ≤ op

/-- The module as the context of service core `n` sees it: its own registers and memories, running, with the network and the memories
that its windows reach, under its own owner code (R585). -/
def State.seenBy (s : State) (n : Nat) (c : Core) : State :=
  { State.reset with
    seq := { c.seq with unit := 4 + n }, smem := c.smem, cycle := c.cycle, mem := s.mem, regs := s.regs, tim := s.tim, free := s.free,
    noc := s.noc, otp := s.otp,
    sys := { System.reset with mode := .run, boot := s.sys.boot, on := s.sys.on, held := s.sys.held, clears := s.sys.clears, transition := s.sys.transition } }

/-- R157: one instruction word in the context of core `n`, or the end of the wait that holds it. -/
def State.coreRun (s : State) (n : Nat) (c : Core) (i : BitVec 48) : State :=
  let t := s.seenBy n c
  match c.seq.wait with
  | .window _ _ => t.completeWindow
  | .save => t.stalledSave
  | .restore => t.stalledRestore
  | _ => if coreRefuses (fld i 40 8) then t.instr [] (fun _ => [0x01]) id else t.runWord i

/-- The core's context after it. -/
def State.coreWord (s : State) (n : Nat) (c : Core) (i : BitVec 48) : Core :=
  let u := s.coreRun n c i
  { seq := u.seq, smem := u.smem, cycle := u.cycle }

/-- What the end of a window access leaves in the module: the memories, their error counters, and the receipts (R177, R585). -/
def State.coreStores (s : State) (n : Nat) (c : Core) (i : BitVec 48) : State :=
  let u := s.coreRun n c i
  if c.seq.wait.stallsStream && !u.seq.stopped then { s with mem := u.mem, regs := u.regs, free := u.free, noc := u.noc } else s

/-- R157, R709: core `n` executes the instruction word `i` of its firmware; a halting fault of its own context makes it faulty. -/
def State.coreInstr (s : State) (n : Nat) (i : BitVec 48) : State :=
  match s.sys.cores[n]? with
  | none => s
  | some c =>
    if !s.sys.coresUp.getLsbD n || s.sys.boot != .done || s.sys.shutdown then s
    else
      let c' := s.coreWord n c i
      let t := (s.coreStores n c i).mapSys (fun y => { y with cores := y.cores.set n c' })
      if c'.seq.stopped then t.coreFailed n else t

/-- Core `n` executes the instruction at its PC. The spec gives no firmware, so a core restarts with an empty instruction memory, whose
words are NOPs (DESIGN CHOICE, log entry 97). -/
def State.coreStep (s : State) (n : Nat) : State :=
  match s.sys.cores[n]? with
  | some c => s.coreInstr n (sget 0 c.smem.imem c.seq.pc.toNat)
  | none => s

/-- Every service core executes one instruction. -/
def State.coresStep (s : State) : State := (List.range 4).foldl State.coreStep s

end Sys2Proof.Machine
end

