-- ==== Sys2Proof/Machine/Bar0.lean ====
section
/-! DEFINITION. What a read of a BAR0 doubleword returns (R603, R604), the I2C target's view of its first areas (R440), and the BAR accesses
that no other row carries out (R692). -/

namespace Sys2Proof.Machine

/-- HOST_ID. -/
def hostId : Word := BitVec.ofNat 24 (0x7700 * 256 + 3 * 16 + Config.revA1.toNat)

/-- HOST_MODE. -/
def State.hostMode (s : State) : Word := BitVec.ofNat 24 (s.sys.mode.code + 64 * geomState s.cv.failed)

/-- Identity, reset cause and strap status, mode and status mirrors, by byte offset. -/
def State.identityWord (s : State) (off : Nat) : Word :=
  if off = 0 then hostId
  else if 0x1000 ≤ off && off < 0x1010 then s.regValue bRST ((off - 0x1000) / 4)
  else if off = 0x2000 then s.hostMode
  else if off = 0x2004 then s.regValue bFRK 0
  else if off = 0x2008 then s.outBusy
  else if off = 0x200C then s.regValue bFRK 6
  else 0

/-- R440: the doubleword that the I2C target shows at a 16-bit offset; nothing past 0x2FFF, and nothing while region 15 holds its pins
(R442). -/
def State.i2cWord (s : State) (off : Nat) : Option Word :=
  if s.serialPorts && off < 0x3000 then some (s.identityWord (off / 4 * 4)) else none

/-- SEM_s: the owner, and the lease left in units of 4 µs, rounded up. -/
def State.semWord (s : State) (n : Nat) : Word := BitVec.ofNat 24 ((s.sem n).1 * 2 ^ 22 + ((s.sem n).2 + 3) / 4)

/-- R604: the register at an aligned BAR0 offset below 0x2_0000 as port `p` reads it; doorbells are write-only. -/
def State.bar0Reg (s : State) (p : Port) (off : Nat) : Word :=
  if off < 0x3000 then s.identityWord off
  else if 0x4000 ≤ off && off < 0x4200 then s.semWord ((off - 0x4000) / 4)
  else if 0x8000 ≤ off && off < 0x8054 then s.reg (mbx .a) (off - 0x8000)
  else if 0x9000 ≤ off && off < 0x9054 then s.reg (mbx .b) (off - 0x9000)
  else if 0x10020 ≤ off && off < 0x10030 then s.reg (dbl p) (off - 0x10000)
  else 0

/-- R603: the doubleword at an aligned BAR0 offset as port `p` reads it, but for the diagnostic window (R609) and the banks. -/
def State.bar0Word (s : State) (p : Port) (off : Nat) : Cont :=
  let h := s.port p
  let k := (off - 0x30000) / 4
  if 0x30000 ≤ off && off < 0x30400 then sget (if k % 4 = 3 then 1 else 0) h.msix k
  else if off = 0x31000 then h.pba.extractLsb' 0 32
  else if off = 0x31004 then h.pba.extractLsb' 32 32
  else (s.bar0Reg p off).setWidth 32

/-- SLEEP_WAKE: a BAR access that no other row carries out: a BAR0 read at an offset, or one that only wakes. In SLEEP the always-on domain
answers reads of offsets below 0x3000 (R692). -/
def execSleepWake (p : Port) (s : State) (read : Option (BitVec 24) := none) : Host.Outcome State Fault Refusal :=
  let off (o : BitVec 24) : Nat := o.toNat / 4 * 4
  let act (o : BitVec 24) (t : State) : State := t.complete p [t.bar0Word p (off o)] false false
  .next (match read with
    | none => if s.portOn p then s.wake else s
    | some o =>
      if s.portOn p && s.sys.mode = .sleep && off o < 0x3000 then (act o s).wake else s.readAtPort p 0 (off o) 1 none (act o))

end Sys2Proof.Machine
end

