-- ==== Sys2Proof/Machine/Jtag.lean ====
section
/-! DEFINITION. The test access port (18, 20). -/

namespace Sys2Proof.Machine

/-- R737: the identification register. -/
def idcodeWord : BitVec 32 := BitVec.ofNat 32 (Config.revA1.toNat * 2 ^ 28 + 0x7700 * 2 ^ 12 + Config.jep106.toNat * 2 + 1)

/-- The opcodes that R737 lists; every other acts as BYPASS. -/
def jtagListed (i : BitVec 8) : Bool := [0x00, 0x01, 0x02, 0x03, 0x04, 0x05, 0x06, 0x10, 0xFF].contains i.toNat

/-- What the current instruction makes of the test data register where the spec says it: IDCODE its word, BYPASS and every opcode that acts
as BYPASS the one bit of IEEE 1149.1, which captures 0. -/
def State.jtagData (s : State) : Option (BitVec 32) :=
  if s.sys.jtag = 0x02 then some idcodeWord
  else if s.sys.jtag = 0xFF || !jtagListed s.sys.jtag then some 0 else none

/-- An instruction becomes current. -/
def State.selectJtag (s : State) (i : BitVec 8) : State := s.mapSys (fun y => { y with jtag := i })

/-- R738: a boundary-scan instruction ends any run as RUN_STOP does, and no run starts until a system or power-on reset. -/
def State.scan (s : State) (i : BitVec 8) : State :=
  let t := s.selectJtag i
  let t := if t.sys.mode = .run then t.lastWindow.stopRun .ok else t
  t.mapSys (fun y => { y with jtagLock := true, accepted := none })

def execExtest (s : State) : Host.Outcome State Fault Refusal := .next (s.scan 0x00)
def execClamp (s : State) : Host.Outcome State Fault Refusal := .next (s.scan 0x03)
def execHighz (s : State) : Host.Outcome State Fault Refusal := .next (s.scan 0x04)
def execExtestPulse (s : State) : Host.Outcome State Fault Refusal := .next (s.scan 0x05)
def execExtestTrain (s : State) : Host.Outcome State Fault Refusal := .next (s.scan 0x06)
def execSamplePreload (s : State) : Host.Outcome State Fault Refusal := .next (s.selectJtag 0x01)
def execIdcode (s : State) : Host.Outcome State Fault Refusal := .next (s.selectJtag 0x02)
/-- BYPASS, or an opcode that acts as BYPASS; an opcode of another row is that row's. -/
def execBypass (s : State) (op : BitVec 8 := 0xFF) : Host.Outcome State Fault Refusal :=
  if jtagListed op && op ≠ 0xFF then .refused .illFormed else .next (s.selectJtag op)

/-- R680, R681: the strap and the policy let a challenge signed with key `i` unlock the debug port. -/
def State.debugPermitted (s : State) (i : Nat) : Bool :=
  (s.reg bRST 1).getLsbD 3
    && (if i < 8 then s.otp.hostClass && s.otp.dbgUnlock else s.otp.serviceClass && decide (i < 12))

/-- R681: an authenticated unlock: secrets are wiped first, and the port stays unlocked until a power-on reset. -/
def State.debugUnlock (s : State) (u : DebugSig) : State :=
  match s.sys.challenge, s.otp.sessionKey u.key.toNat with
  | some c, some k =>
    let t := s.mapSys (fun y => { y with challenge := none })
    if s.debugPermitted u.key.toNat && Config.edVerify k (leBytes 32 c.toNat) u.sig then
      (t.wipeBanks.wipeDram).mapSys (fun y => { y with debug := true })
    else t
  | _, _ => s.mapSys (fun y => { y with challenge := none })

/-- DEBUG (R681): the instruction is current; it gives debug access only while `System.debug` says the port is unlocked. Without a
signature the port gives a new challenge, a free value; a signature answers the challenge that it holds, once (DEDUCED, log entry 83). -/
def execDebug (s : State) (u : Option DebugSig := none) : Host.Outcome State Fault Refusal :=
  .next (match u with
    | none => s.drawn.selectJtag 0x10 |>.mapSys (fun y => { y with challenge := some (s.freeBits 256) })
    | some d => (s.debugUnlock d).selectJtag 0x10)

/-- The debug port answers a debug access. -/
def State.debugAccess (s : State) : Bool := s.sys.jtag == 0x10 && s.sys.debug

end Sys2Proof.Machine
end

