-- ==== Sys2Proof/Machine/Dispatch.lean ====
section
/-! DEFINITION. What each command does: one arm for each row of the opcode table, one direct call each. -/

namespace Sys2Proof.Machine

def exec (i : Instr) (s : State) : Host.Outcome State Fault Refusal :=
  match i with
  | .nop w => Sys2Proof.Machine.execNop w s
  | .mov w => Sys2Proof.Machine.execMov w s
  | .movi w => Sys2Proof.Machine.execMovi w s
  | .add w => Sys2Proof.Machine.execAdd w s
  | .addi w => Sys2Proof.Machine.execAddi w s
  | .sub w => Sys2Proof.Machine.execSub w s
  | .subi w => Sys2Proof.Machine.execSubi w s
  | .adc w => Sys2Proof.Machine.execAdc w s
  | .sbc w => Sys2Proof.Machine.execSbc w s
  | .and_ w => Sys2Proof.Machine.execAnd_ w s
  | .andi w => Sys2Proof.Machine.execAndi w s
  | .or_ w => Sys2Proof.Machine.execOr_ w s
  | .ori w => Sys2Proof.Machine.execOri w s
  | .xor w => Sys2Proof.Machine.execXor w s
  | .xori w => Sys2Proof.Machine.execXori w s
  | .not_ w => Sys2Proof.Machine.execNot_ w s
  | .neg w => Sys2Proof.Machine.execNeg w s
  | .abs w => Sys2Proof.Machine.execAbs w s
  | .cmp w => Sys2Proof.Machine.execCmp w s
  | .cmpi w => Sys2Proof.Machine.execCmpi w s
  | .shl w => Sys2Proof.Machine.execShl w s
  | .shli w => Sys2Proof.Machine.execShli w s
  | .shr w => Sys2Proof.Machine.execShr w s
  | .shri w => Sys2Proof.Machine.execShri w s
  | .sar w => Sys2Proof.Machine.execSar w s
  | .sari w => Sys2Proof.Machine.execSari w s
  | .sal w => Sys2Proof.Machine.execSal w s
  | .sali w => Sys2Proof.Machine.execSali w s
  | .rol w => Sys2Proof.Machine.execRol w s
  | .roli w => Sys2Proof.Machine.execRoli w s
  | .ror w => Sys2Proof.Machine.execRor w s
  | .rori w => Sys2Proof.Machine.execRori w s
  | .mull w => Sys2Proof.Machine.execMull w s
  | .mulu w => Sys2Proof.Machine.execMulu w s
  | .muls w => Sys2Proof.Machine.execMuls w s
  | .macu w => Sys2Proof.Machine.execMacu w s
  | .macs w => Sys2Proof.Machine.execMacs w s
  | .divu w => Sys2Proof.Machine.execDivu w s
  | .divs w => Sys2Proof.Machine.execDivs w s
  | .acrd w => Sys2Proof.Machine.execAcrd w s
  | .acwr w => Sys2Proof.Machine.execAcwr w s
  | .acclr w => Sys2Proof.Machine.execAcclr w s
  | .ld w => Sys2Proof.Machine.execLd w s
  | .st w => Sys2Proof.Machine.execSt w s
  | .ldac w => Sys2Proof.Machine.execLdac w s
  | .stac w => Sys2Proof.Machine.execStac w s
  | .windowAccessComplete => Sys2Proof.Machine.execWindowAccessComplete s
  | .fadd_32 w => Sys2Proof.Machine.execFadd_32 w s
  | .fadd_64 w => Sys2Proof.Machine.execFadd_64 w s
  | .fsub_32 w => Sys2Proof.Machine.execFsub_32 w s
  | .fsub_64 w => Sys2Proof.Machine.execFsub_64 w s
  | .fmul_32 w => Sys2Proof.Machine.execFmul_32 w s
  | .fmul_64 w => Sys2Proof.Machine.execFmul_64 w s
  | .fma_32 w => Sys2Proof.Machine.execFma_32 w s
  | .fma_64 w => Sys2Proof.Machine.execFma_64 w s
  | .fdiv_32 w => Sys2Proof.Machine.execFdiv_32 w s
  | .fdiv_64 w => Sys2Proof.Machine.execFdiv_64 w s
  | .fsqrt_32 w => Sys2Proof.Machine.execFsqrt_32 w s
  | .fsqrt_64 w => Sys2Proof.Machine.execFsqrt_64 w s
  | .fcmp_32 w => Sys2Proof.Machine.execFcmp_32 w s
  | .fcmp_64 w => Sys2Proof.Machine.execFcmp_64 w s
  | .fcvt w => Sys2Proof.Machine.execFcvt w s
  | .b w => Sys2Proof.Machine.execB w s
  | .call w => Sys2Proof.Machine.execCall w s
  | .callr w => Sys2Proof.Machine.execCallr w s
  | .jmp w => Sys2Proof.Machine.execJmp w s
  | .ret w => Sys2Proof.Machine.execRet w s
  | .retl w => Sys2Proof.Machine.execRetl w s
  | .save w => Sys2Proof.Machine.execSave w s
  | .restore w => Sys2Proof.Machine.execRestore w s
  | .stalledSaveExecute => Sys2Proof.Machine.execStalledSaveExecute s
  | .stalledRestoreExecute => Sys2Proof.Machine.execStalledRestoreExecute s
  | .spill => Sys2Proof.Machine.execSpill s
  | .fill => Sys2Proof.Machine.execFill s
  | .rep w => Sys2Proof.Machine.execRep w s
  | .repr w => Sys2Proof.Machine.execRepr w s
  | .lock w => Sys2Proof.Machine.execLock w s
  | .unlock w => Sys2Proof.Machine.execUnlock w s
  | .waitb w => Sys2Proof.Machine.execWaitb w s
  | .waitbComplete => Sys2Proof.Machine.execWaitbComplete s
  | .scall w => Sys2Proof.Machine.execScall w s
  | .sret w => Sys2Proof.Machine.execSret w s
  | .rtt w => Sys2Proof.Machine.execRtt w s
  | .halt w => Sys2Proof.Machine.execHalt w s
  | .chkpt w => Sys2Proof.Machine.execChkpt w s
  | .aadd w => Sys2Proof.Machine.execAadd w s
  | .asub w => Sys2Proof.Machine.execAsub w s
  | .acmp w => Sys2Proof.Machine.execAcmp w s
  | .aneg w => Sys2Proof.Machine.execAneg w s
  | .aabs w => Sys2Proof.Machine.execAabs w s
  | .amulu w => Sys2Proof.Machine.execAmulu w s
  | .amuls w => Sys2Proof.Machine.execAmuls w s
  | .adivu w => Sys2Proof.Machine.execAdivu w s
  | .aremu w => Sys2Proof.Machine.execAremu w s
  | .adivs w => Sys2Proof.Machine.execAdivs w s
  | .arems w => Sys2Proof.Machine.execArems w s
  | .ashl w => Sys2Proof.Machine.execAshl w s
  | .ashr w => Sys2Proof.Machine.execAshr w s
  | .asar w => Sys2Proof.Machine.execAsar w s
  | .asal w => Sys2Proof.Machine.execAsal w s
  | .arol w => Sys2Proof.Machine.execArol w s
  | .aror w => Sys2Proof.Machine.execAror w s
  | .amov w => Sys2Proof.Machine.execAmov w s
  | .abool2 w => Sys2Proof.Machine.execAbool2 w s
  | .abool3 w => Sys2Proof.Machine.execAbool3 w s
  | .abcast w => Sys2Proof.Machine.execAbcast w s
  | .afadd_32 w => Sys2Proof.Machine.execAfadd_32 w s
  | .afsub_32 w => Sys2Proof.Machine.execAfsub_32 w s
  | .afmul_32 w => Sys2Proof.Machine.execAfmul_32 w s
  | .afma_32 w => Sys2Proof.Machine.execAfma_32 w s
  | .afdiv_32 w => Sys2Proof.Machine.execAfdiv_32 w s
  | .afsqrt_32 w => Sys2Proof.Machine.execAfsqrt_32 w s
  | .afcmp_32 w => Sys2Proof.Machine.execAfcmp_32 w s
  | .afadd_64 w => Sys2Proof.Machine.execAfadd_64 w s
  | .afsub_64 w => Sys2Proof.Machine.execAfsub_64 w s
  | .afmul_64 w => Sys2Proof.Machine.execAfmul_64 w s
  | .afma_64 w => Sys2Proof.Machine.execAfma_64 w s
  | .afdiv_64 w => Sys2Proof.Machine.execAfdiv_64 w s
  | .afsqrt_64 w => Sys2Proof.Machine.execAfsqrt_64 w s
  | .afcmp_64 w => Sys2Proof.Machine.execAfcmp_64 w s
  | .afcvt w => Sys2Proof.Machine.execAfcvt w s
  | .ashift w => Sys2Proof.Machine.execAshift w s
  | .agath w => Sys2Proof.Machine.execAgath w s
  | .agathor w => Sys2Proof.Machine.execAgathor w s
  | .agset w => Sys2Proof.Machine.execAgset w s
  | .agnz w => Sys2Proof.Machine.execAgnz w s
  | .agclr w => Sys2Proof.Machine.execAgclr w s
  | .agdlv w => Sys2Proof.Machine.execAgdlv w s
  | .amset w => Sys2Proof.Machine.execAmset w s
  | .amall w => Sys2Proof.Machine.execAmall w s
  | .amnot w => Sys2Proof.Machine.execAmnot w s
  | .amand w => Sys2Proof.Machine.execAmand w s
  | .ain w => Sys2Proof.Machine.execAin w s
  | .aout w => Sys2Proof.Machine.execAout w s
  | .atake w => Sys2Proof.Machine.execAtake w s
  | .apost w => Sys2Proof.Machine.execApost w s
  | .afclr w => Sys2Proof.Machine.execAfclr w s
  | .afmov w => Sys2Proof.Machine.execAfmov w s
  | .aside w => Sys2Proof.Machine.execAside w s
  | .microWord => Sys2Proof.Machine.execMicroWord s
  | .scanResult => Sys2Proof.Machine.execScanResult s
  | .arrayFpCheckResult => Sys2Proof.Machine.execArrayFpCheckResult s
  | .nanoWord => Sys2Proof.Machine.execNanoWord s
  | .interruptEntry => Sys2Proof.Machine.execInterruptEntry s
  | .seqCtxsaveWrite v => Sys2Proof.Machine.execSeqCtxsaveWrite v s
  | .seqCtxloadWrite v => Sys2Proof.Machine.execSeqCtxloadWrite v s
  | .seqIsetWrite v => Sys2Proof.Machine.execSeqIsetWrite v s
  | .seqRptcWrite v => Sys2Proof.Machine.execSeqRptcWrite v s
  | .seqTstateWrite v => Sys2Proof.Machine.execSeqTstateWrite v s
  | .spillPointerWrite k v => Sys2Proof.Machine.execSpillPointerWrite k v s
  | .seqCycloLoad r => Sys2Proof.Machine.execSeqCycloLoad r s
  | .seqPmloLoad r => Sys2Proof.Machine.execSeqPmloLoad r s
  | .seqTallyLoad r => Sys2Proof.Machine.execSeqTallyLoad r s
  | .tallyCapture => Sys2Proof.Machine.execTallyCapture s
  | .regionCapture => Sys2Proof.Machine.execRegionCapture s
  | .flagGroupDelivery => Sys2Proof.Machine.execFlagGroupDelivery s
  | .accPulseEnd n => Sys2Proof.Machine.execAccPulseEnd n s
  | .triggerWord => Sys2Proof.Machine.execTriggerWord s
  | .outputFrame n gap => Sys2Proof.Machine.execOutputFrame n gap s
  | .beat => Sys2Proof.Machine.execBeat s
  | .beatclkLost => Sys2Proof.Machine.execBeatclkLost s
  | .beatclkOutOfRange => Sys2Proof.Machine.execBeatclkOutOfRange s
  | .sync part arg => Sys2Proof.Machine.execSync part arg s
  | .tstreamRunStart part arg => Sys2Proof.Machine.execTstreamRunStart part arg s
  | .spillWarning part arg => Sys2Proof.Machine.execSpillWarning part arg s
  | .spillEnd part arg => Sys2Proof.Machine.execSpillEnd part arg s
  | .beatReset part arg => Sys2Proof.Machine.execBeatReset part arg s
  | .epoch part arg => Sys2Proof.Machine.execEpoch part arg s
  | .spillStart => Sys2Proof.Machine.execSpillStart s
  | .symbolAlignment l => Sys2Proof.Machine.execSymbolAlignment l s
  | .orderedSet l line onWord onBeat phase => Sys2Proof.Machine.execOrderedSet l line onWord onBeat phase s
  | .helloTimeout l => Sys2Proof.Machine.execHelloTimeout l s
  | .helloTransmit l => Sys2Proof.Machine.execHelloTransmit l s
  | .laneUp l => Sys2Proof.Machine.execLaneUp l s
  | .aliveTransmit l => Sys2Proof.Machine.execAliveTransmit l s
  | .laneWord l line head => Sys2Proof.Machine.execLaneWord l line head s
  | .lossOfSignal l => Sys2Proof.Machine.execLossOfSignal l s
  | .cdrLossOfLock l => Sys2Proof.Machine.execCdrLossOfLock l s
  | .aliveTimeout l => Sys2Proof.Machine.execAliveTimeout l s
  | .quadPllLossOfLock n => Sys2Proof.Machine.execQuadPllLossOfLock n s
  | .quadPllLock n => Sys2Proof.Machine.execQuadPllLock n s
  | .lqPllWrite u n v => Sys2Proof.Machine.execLqPllWrite u n v s
  | .lqCfgWrite u l v => Sys2Proof.Machine.execLqCfgWrite u l v s
  | .ingestRecord n rec => Sys2Proof.Machine.execIngestRecord n rec s
  | .stalledRecordAccept n => Sys2Proof.Machine.execStalledRecordAccept n s
  | .payloadWrite n => Sys2Proof.Machine.execPayloadWrite n s
  | .egressDrain n => Sys2Proof.Machine.execEgressDrain n s
  | .capturePacket n => Sys2Proof.Machine.execCapturePacket n s
  | .queuePush n data pop => Sys2Proof.Machine.execQueuePush n data pop s
  | .queuePop n => Sys2Proof.Machine.execQueuePop n s
  | .twqCfgWrite u n thr v => Sys2Proof.Machine.execTwqCfgWrite u n thr v s
  | .tweedFrame => Sys2Proof.Machine.execTweedFrame s
  | .regionRelease => Sys2Proof.Machine.execRegionRelease s
  | .tweedUserInterrupt => Sys2Proof.Machine.execTweedUserInterrupt s
  | .generalTimerExpiry n => Sys2Proof.Machine.execGeneralTimerExpiry n s
  | .spiPacket q => Sys2Proof.Machine.execSpiPacket q s
  | .uartPacket q => Sys2Proof.Machine.execUartPacket q s
  | .packetInject n entry k => Sys2Proof.Machine.execPacketInject n entry k s
  | .tokenRefill n c => Sys2Proof.Machine.execTokenRefill n c s
  | .routerHop n e => Sys2Proof.Machine.execRouterHop n s e
  | .read n => Sys2Proof.Machine.execRead n s
  | .write n => Sys2Proof.Machine.execWrite n s
  | .writeAck n => Sys2Proof.Machine.execWriteAck n s
  | .response n => Sys2Proof.Machine.execResponse n s
  | .message n => Sys2Proof.Machine.execMessage n s
  | .returnReceipt n => Sys2Proof.Machine.execReturnReceipt n s
  | .bouncedHead => Sys2Proof.Machine.execBouncedHead s
  | .routerReconfiguration n ports => Sys2Proof.Machine.execRouterReconfiguration n ports s
  | .routerResume n => Sys2Proof.Machine.execRouterResume n s
  | .nocNictlWrite u n v => Sys2Proof.Machine.execNocNictlWrite u n v s
  | .nocRateWrite u n c v => Sys2Proof.Machine.execNocRateWrite u n c v s
  | .domainClose n => Sys2Proof.Machine.execDomainClose n s
  | .domainGate n => Sys2Proof.Machine.execDomainGate n s
  | .domainWake n => Sys2Proof.Machine.execDomainWake n s
  | .domainSwitchOn n => Sys2Proof.Machine.execDomainSwitchOn n s
  | .resetRelease n => Sys2Proof.Machine.execResetRelease n s
  | .clockNotReady n => Sys2Proof.Machine.execClockNotReady n s
  | .tileZeroingComplete n => Sys2Proof.Machine.execTileZeroingComplete n s
  | .patrolScrub line => Sys2Proof.Machine.execPatrolScrub line s
  | .stackLoss n => Sys2Proof.Machine.execStackLoss n s
  | .phOwnWrite u n v => Sys2Proof.Machine.execPhOwnWrite u n v s
  | .ownerHandover n => Sys2Proof.Machine.execOwnerHandover n s
  | .wipeComplete => Sys2Proof.Machine.execWipeComplete s
  | .hostDbReq p v => Sys2Proof.Machine.execHostDbReq p v s
  | .hostDbRep p v => Sys2Proof.Machine.execHostDbRep p v s
  | .hostDbEv p v => Sys2Proof.Machine.execHostDbEv p v s
  | .hostDbSeq p v => Sys2Proof.Machine.execHostDbSeq p v s
  | .hostDbPeer p v => Sys2Proof.Machine.execHostDbPeer p v s
  | .hostIstatWrite p v => Sys2Proof.Machine.execHostIstatWrite p v s
  | .semWrite p n v tie => Sys2Proof.Machine.execSemWrite p n v tie s
  | .leaseExpiry n => Sys2Proof.Machine.execLeaseExpiry n s
  | .bar2Write p off data => Sys2Proof.Machine.execBar2Write p off data s
  | .bar2Read p off len => Sys2Proof.Machine.execBar2Read p off len s
  | .bar0BankWindowAccess p own wr n v => Sys2Proof.Machine.execBar0BankWindowAccess p own wr n v s
  | .diagWindowAccess p wr n v => Sys2Proof.Machine.execDiagWindowAccess p wr n v s
  | .sleepWake p read => Sys2Proof.Machine.execSleepWake p s read
  | .portReset p => Sys2Proof.Machine.execPortReset p s
  | .replyRelease p => Sys2Proof.Machine.execReplyRelease p s
  | .nonceExpiry p => Sys2Proof.Machine.execNonceExpiry p s
  | .hello p q => Sys2Proof.Machine.execHello p q s
  | .getInfoIdentity p q => Sys2Proof.Machine.execGetInfoIdentity p q s
  | .getInfoFormats p q => Sys2Proof.Machine.execGetInfoFormats p q s
  | .getInfoState p q => Sys2Proof.Machine.execGetInfoState p q s
  | .setMode p q => Sys2Proof.Machine.execSetMode p q s
  | .modeTransitionComplete => Sys2Proof.Machine.execModeTransitionComplete s
  | .loadImageFirmware p q => Sys2Proof.Machine.execLoadImageFirmware p q s
  | .loadImagePatch p q => Sys2Proof.Machine.execLoadImagePatch p q s
  | .loadImageTweed p q => Sys2Proof.Machine.execLoadImageTweed p q s
  | .loadImageProgram p q => Sys2Proof.Machine.execLoadImageProgram p q s
  | .loadImageChannelMap p q => Sys2Proof.Machine.execLoadImageChannelMap p q s
  | .commit p q => Sys2Proof.Machine.execCommit p q s
  | .place p q => Sys2Proof.Machine.execPlace p q s
  | .placeComplete => Sys2Proof.Machine.execPlaceComplete s
  | .getPlacementReport p q => Sys2Proof.Machine.execGetPlacementReport p q s
  | .getPlacementPostcode p q => Sys2Proof.Machine.execGetPlacementPostcode p q s
  | .getPlacementPe p q => Sys2Proof.Machine.execGetPlacementPe p q s
  | .loadParams p q => Sys2Proof.Machine.execLoadParams p q s
  | .loadParamsTimeout => Sys2Proof.Machine.execLoadParamsTimeout s
  | .budgetGrant p q => Sys2Proof.Machine.execBudgetGrant p q s
  | .budgetQueryLedger p q => Sys2Proof.Machine.execBudgetQueryLedger p q s
  | .budgetQuerySection p q => Sys2Proof.Machine.execBudgetQuerySection p q s
  | .runStart p q => Sys2Proof.Machine.execRunStart p q s
  | .runStop p q => Sys2Proof.Machine.execRunStop p q s
  | .runStopEffect => Sys2Proof.Machine.execRunStopEffect s
  | .captureRead p q => Sys2Proof.Machine.execCaptureRead p q s
  | .probeSet p q => Sys2Proof.Machine.execProbeSet p q s
  | .probeRead p q => Sys2Proof.Machine.execProbeRead p q s
  | .claim p q => Sys2Proof.Machine.execClaim p q s
  | .release p q => Sys2Proof.Machine.execRelease p q s
  | .sessionOpenNonsecure p q => Sys2Proof.Machine.execSessionOpenNonsecure p q s
  | .sessionOpenChallenge p q => Sys2Proof.Machine.execSessionOpenChallenge p q s
  | .sessionClose p q => Sys2Proof.Machine.execSessionClose p q s
  | .sessionOpenSecure p q => Sys2Proof.Machine.execSessionOpenSecure p q s
  | .attest p q => Sys2Proof.Machine.execAttest p q s
  | .sealRun p q => Sys2Proof.Machine.execSealRun p q s
  | .wipe p q => Sys2Proof.Machine.execWipe p q s
  | .lifecycle p q => Sys2Proof.Machine.execLifecycle p q s
  | .resetCore p q => Sys2Proof.Machine.execResetCore p q s
  | .resetSystem p q => Sys2Proof.Machine.execResetSystem p q s
  | .resetBlock p q => Sys2Proof.Machine.execResetBlock p q s
  | .selftest p q => Sys2Proof.Machine.execSelftest p q s
  | .readback p q => Sys2Proof.Machine.execReadback p q s
  | .regRead p q => Sys2Proof.Machine.execRegRead p q s
  | .regWrite p q => Sys2Proof.Machine.execRegWrite p q s
  | .registerWrite u blk off v => Sys2Proof.Machine.execRegisterWrite u blk off v s
  | .secWorldWrite u off v => Sys2Proof.Machine.execSecWorldWrite u off v s
  | .worldClearComplete => Sys2Proof.Machine.execWorldClearComplete s
  | .rstBootlenWrite p v => Sys2Proof.Machine.execRstBootlenWrite p v s
  | .bootTimeout => Sys2Proof.Machine.execBootTimeout s
  | .frkEloRead => Sys2Proof.Machine.execFrkEloRead s
  | .frankingSample m => Sys2Proof.Machine.execFrankingSample m s
  | .budgetWindowStart => Sys2Proof.Machine.execBudgetWindowStart s
  | .avsStatus => Sys2Proof.Machine.execAvsStatus s
  | .avsTimeout => Sys2Proof.Machine.execAvsTimeout s
  | .dividerSwitch => Sys2Proof.Machine.execDividerSwitch s
  | .boostWearSave => Sys2Proof.Machine.execBoostWearSave s
  | .thermalTrip => Sys2Proof.Machine.execThermalTrip s
  | .thermalFallbackSwitch => Sys2Proof.Machine.execThermalFallbackSwitch s
  | .thermalRecovery => Sys2Proof.Machine.execThermalRecovery s
  | .thermalShutdown => Sys2Proof.Machine.execThermalShutdown s
  | .currentLimit => Sys2Proof.Machine.execCurrentLimit s
  | .limitStepRemove => Sys2Proof.Machine.execLimitStepRemove s
  | .tamperTrip n => Sys2Proof.Machine.execTamperTrip n s
  | .powerOnReset => Sys2Proof.Machine.execPowerOnReset s
  | .brownOut => Sys2Proof.Machine.execBrownOut s
  | .systemReset => Sys2Proof.Machine.execSystemReset s
  | .watchdogExpiry => Sys2Proof.Machine.execWatchdogExpiry s
  | .pllLossOfLock port => Sys2Proof.Machine.execPllLossOfLock s port
  | .outputPllLossOfLock n => Sys2Proof.Machine.execOutputPllLossOfLock n s
  | .tweedPllLossOfLock n => Sys2Proof.Machine.execTweedPllLossOfLock n s
  | .startUp e => Sys2Proof.Machine.execStartUp e s
  | .tileRowRepair => Sys2Proof.Machine.execTileRowRepair s
  | .sequencerFault => Sys2Proof.Machine.execSequencerFault s
  | .checkpointRestart => Sys2Proof.Machine.execCheckpointRestart s
  | .heartbeatMissed n => Sys2Proof.Machine.execHeartbeatMissed n s
  | .extest => Sys2Proof.Machine.execExtest s
  | .samplePreload => Sys2Proof.Machine.execSamplePreload s
  | .idcode => Sys2Proof.Machine.execIdcode s
  | .clamp => Sys2Proof.Machine.execClamp s
  | .highz => Sys2Proof.Machine.execHighz s
  | .extestPulse => Sys2Proof.Machine.execExtestPulse s
  | .extestTrain => Sys2Proof.Machine.execExtestTrain s
  | .debug u => Sys2Proof.Machine.execDebug s u
  | .bypass op => Sys2Proof.Machine.execBypass s op
  | .illegalInstruction w => Sys2Proof.Machine.execIllegalInstruction w s
  | .discardedTstreamFrame f => Sys2Proof.Machine.execDiscardedTstreamFrame f s
  | .unknownOpcodeRequest p q => Sys2Proof.Machine.execUnknownOpcodeRequest p q s
  | .outputPllLock n => Sys2Proof.Machine.execOutputPllLock n s
  | .tweedPllLock n => Sys2Proof.Machine.execTweedPllLock n s
  | .pcieLinkUp p c => Sys2Proof.Machine.execPcieLinkUp p s c
  | .blockResetTimeout => Sys2Proof.Machine.execBlockResetTimeout s
  | .tilePowerGoodLoss n => Sys2Proof.Machine.execTilePowerGoodLoss n s
  | .serviceCoreUncorrectableError n => Sys2Proof.Machine.execServiceCoreUncorrectableError n s

end Sys2Proof.Machine
end

