-- ==== Sys2Proof/Machine/Step.lean ====
section
/-! DEFINITION. One step of the module: the command at the front of the queue, or on an empty queue the module's own
clocks (DESIGN CHOICE, log entry 2). -/

namespace Sys2Proof.Machine

/-- What the module does with no command waiting: its timers and power follow one microsecond of the always-on clock, the array
program goes on by one instruction, each service core by one, and the user logic of every ACTIVE region by one clock (DESIGN CHOICE,
log entry 2). -/
def State.idle (s : State) : State := s.microsecond.programStep.coresStep.fabricTick

/-- A step takes the command at the front of the queue; with an empty queue the module's own clocks go on. -/
def step (s : State) : Host.Outcome State Fault Refusal :=
  match s.pending with
  | [] => .next s.idle
  | c :: rest => exec c { s with pending := rest }

/-- `s` with a command at the front of its queue. -/
def State.push (s : State) (c : Instr) : State := { s with pending := c :: s.pending }

/-- `s` with the command that a word spells at the front of its queue. -/
def State.withFetchWord (s : State) (nbits w : Nat) : State :=
  match decodeTableWord nbits w with
  | some c => s.push c
  | none => s

end Sys2Proof.Machine
end

