-- ==== Sys2Proof/Safety.lean ====
section
/-! DEFINITION. The terms in which the statements are put: canonical memories, the issue of an instruction, what an
instruction leaves alone, and the requests that the interpreter takes. -/

namespace Sys2Proof.Machine

/-! ### Memories -/

/-- A memory's canonical form: addresses strictly rising, none listed with the value that an unlisted address reads as. -/
def Memories.wf (m : Memories) : Bool := swf 0 m.dram && swf 0 m.ph
def SeqMem.wf (m : SeqMem) : Bool := swf 0 m.imem && swf 0 m.dmem

/-- The four addressed memories (R571, R581, R175) are in canonical form. -/
def State.memoriesCanonical (s : State) : Bool := s.mem.wf && s.smem.wf

/-! ### Issue and retirement of an instruction (R168, R169, R248) -/

/-- The instruction at PC issues in state `t`: scalar issue is not held, the array cycles up to its issue cycle have passed, no
interrupt is due before it, and its fetch raises no cause. `srcs` are the registers it reads. -/
def State.Issues (s : State) (srcs : List Nat) (t : State) : Prop :=
  s.issuing = true ∧ s.toIssue srcs = t ∧ t.issuing = true ∧ t.interruptDue = none ∧ t.fetchCauses = []

/-- PC after one execution of the instruction at PC (R248). -/
def Seq.nextPc (q : Seq) : BitVec 18 := if q.rptc.toNat ≤ 1 then q.pc + 1 else q.pc

/-- PC and the repeat counter have moved on, and the next instruction may issue `n` cycles after cycle `t`. -/
def Seq.Retired (q q' : Seq) (t n : Nat) : Prop :=
  q'.pc = q.nextPc ∧ q'.rptc = (if q.rptc = 0 then 0 else q.rptc - 1) ∧ q'.freeAt = t + n ∧ q'.loaded = none

/-! ### Frames -/

/-- Nothing but the sequencer has changed. -/
def State.SeqOnly (s t : State) : Prop := { t with seq := s.seq } = s

/-- Nothing of the sequencer has changed but registers, flags, PC, the repeat counter and the issue bookkeeping. -/
def Seq.RegsOnly (q q' : Seq) : Prop :=
  { q' with dRegs := q.dRegs, dDirty := q.dDirty, aRegs := q.aRegs, acRegs := q.acRegs, acDirty := q.acDirty, cr := q.cr,
            pc := q.pc, rptc := q.rptc, freeAt := q.freeAt, loaded := q.loaded, dataAt := q.dataAt } = q

/-- D or A register `r` holds `v`; every other D or A register that the context names, every physical D register that `r` is
not, and every accumulator read as before. -/
def Seq.Wrote (q q' : Seq) (r : Nat) (v : Word) : Prop :=
  daGet q' r = v ∧ (∀ k < 48, k ≠ r → daGet q' k = daGet q k)
    ∧ (∀ p < 216, (32 ≤ r ∨ p ≠ dPhys q r) → physGet q' p = physGet q p) ∧ (∀ n, acGet q' n = acGet q n)

/-- R171: the word address that a load or store uses, and what its base register holds afterwards. -/
def Seq.usedAddress (q : Seq) (w : BitVec 40) : Nat :=
  (aGet q (fld w 30 4) + (if fld w 27 3 = 0 then w.extractLsb' 0 24 else 0)).toNat
def Seq.newBase (q : Seq) (w : BitVec 40) : Word :=
  let a := aGet q (fld w 30 4)
  let x := aGet q (fld w 0 4)
  match fld w 27 3 with
  | 1 => a + w.extractLsb' 0 24
  | 2 => a - w.extractLsb' 0 24
  | 3 => a + x
  | 4 => a - x
  | _ => a

/-- The registers after a load or store: D or A register `r` of `regs` holds its value, the base register its updated value unless
`r` is the base register; accumulator `m` of `accs` holds its value. Every other register reads as before. -/
def Seq.Moved (q q' : Seq) (w : BitVec 40) (regs : Option (Nat × Word)) (accs : Option (Nat × BitVec 72)) : Prop :=
  (∀ k < 48, daGet q' k = if regs.map (·.1) = some k then (regs.map (·.2)).getD 0
      else if k = 32 + fld w 30 4 then q.newBase w else daGet q k)
    ∧ (∀ p < 216, (∀ e, regs = some e → 32 ≤ e.1 ∨ p ≠ dPhys q e.1) → physGet q' p = physGet q p)
    ∧ (∀ m, acGet q' m = if accs.map (·.1) = some m then (accs.map (·.2)).getD 0 else acGet q m)

/-- Accumulator `n` holds `v`; every other accumulator and every D and A register read as before. -/
def Seq.WroteAc (q q' : Seq) (n : Nat) (v : BitVec 72) : Prop :=
  acGet q' n = v ∧ (∀ k, k ≠ n → acGet q' k = acGet q k) ∧ (∀ r, daGet q' r = daGet q r)
    ∧ (∀ p, physGet q' p = physGet q p)

/-- Every register reads as before. -/
def Seq.WroteNone (q q' : Seq) : Prop :=
  (∀ r, daGet q' r = daGet q r) ∧ (∀ p, physGet q' p = physGet q p) ∧ (∀ n, acGet q' n = acGet q n)

/-! ### Requests (R618 to R626, R656) -/

/-- Request `q` of port `p` is taken, leaving `t`, and meets every condition of R625 and R656 under what its row demands: word tops of 0,
CRC, a version that both sides have, a listed opcode, an open session, no option bit, a block that fits, good fields, permission, the
mode, no other command of R631 under way, and the lifecycle state. -/
def State.Accepts (s t : State) (p : Port) (q : Request) (d : Demand) : Prop :=
  s.interprets (.ring p) = true ∧ s.takePacket p q = (true, t)
    ∧ (∀ c ∈ [q.w0, q.w1, q.w2, q.w3] ++ q.conts, fld c 24 8 = 0) ∧ crc24 q.words = q.w3.setWidth 24
    ∧ (q.op = 1 ∨ d.ver ≤ q.ver ∧ q.ver ≤ t.agreed (.ring p)) ∧ opListed q.op = true ∧ t.sessionOpen (.ring p) q.sess = true
    ∧ fld q.w1 1 7 = 0 ∧ (q.block = 0 ∨ blockListed q.block = true ∧ q.op ∈ [0x70, 0x7E, 0x7F]) ∧ d.fields = true
    ∧ d.permit.1 = .ok ∧ d.mode = true ∧ t.held631 q.op = false ∧ t.lifeBars q.op d.early = false

/-- The row of request `q` of port `p`: it completes with the outcome `done` where the request meets every condition, and where the
interpreter has taken the packet, leaving `t`, and a check fails, the first failure is the reply's status. -/
def State.RowDoes (s t : State) (p : Port) (q : Request) (row : Instr) (demand : Demand) (done : State) : Prop :=
  (s.Accepts t p q demand → exec row s = .next done)
    ∧ (s.interprets (.ring p) = true → s.takePacket p q = (true, t) → ∀ st n, t.check (.ring p) q demand = (st, n) → st ≠ .ok →
      exec row s = .next (t.refuse (.ring p) q st n))

end Sys2Proof.Machine
end

