-- ==== Sys2Proof/WellFormed.lean ====
section
/-! DEFINITION. Which commands are well formed. A request's bits name one row of the table: its opcode, and where several rows
share the opcode its first payload word; a selector that no row has is well formed in each of them, and the interpreter answers
BAD_PARAMETER. Three rows are defined by what no other row has: an instruction word with an unlisted opcode, a request with an
unlisted opcode, and BYPASS, which takes its own test-port opcode and every one that no other row has. Every other operand's type is exactly what the row takes. -/

namespace Sys2Proof

/-- The opcode of a request (R623). -/
def Request.opcode (q : Request) : BitVec 8 := q.w0.extractLsb' 16 8

/-- The first payload word that the header counts, 0 where it counts none (R623). -/
def Request.selector (q : Request) : Nat :=
  if q.w0.extractLsb' 0 12 = 0 then 0 else ((q.payload[0]?).getD 0).toNat % 2 ^ 24

/-- The scalar and array opcodes that the instruction tables list (R166). -/
def listedOpcodes : List (Nat × Nat) :=
  [(0x00, 0x29), (0x30, 0x33), (0x40, 0x46), (0x48, 0x4F), (0x60, 0x71), (0x80, 0x94), (0xA0, 0xA6), (0xA8, 0xB2), (0xB8, 0xC6)]

/-- The request opcodes that the command table lists (R630). -/
def listedRequests : List (BitVec 8) :=
  [0x01, 0x02, 0x03, 0x10, 0x11, 0x12, 0x13, 0x14, 0x20, 0x21, 0x30, 0x31, 0x32, 0x40, 0x41, 0x50, 0x51, 0x60, 0x61, 0x62,
   0x63, 0x64, 0x70, 0x71, 0x72, 0x7E, 0x7F]

/-- The test-port opcodes of the rows other than BYPASS (R737). -/
def scanOpcodes : List (BitVec 8) := [0x00, 0x01, 0x02, 0x03, 0x04, 0x05, 0x06, 0x10]

/-- A request's port and packet, the opcode of its row, and where rows share the opcode the row's selector and the highest
selector of those rows (R632). -/
def Instr.requestRow : Instr → Option (Port × Request × BitVec 8 × Option (Nat × Nat))
  | .hello p q => some (p, q, 0x01, none)
  | .getInfoIdentity p q => some (p, q, 0x02, some (0, 2))
  | .getInfoFormats p q => some (p, q, 0x02, some (1, 2))
  | .getInfoState p q => some (p, q, 0x02, some (2, 2))
  | .setMode p q => some (p, q, 0x03, none)
  | .loadImageFirmware p q => some (p, q, 0x10, some (0, 4))
  | .loadImagePatch p q => some (p, q, 0x10, some (1, 4))
  | .loadImageTweed p q => some (p, q, 0x10, some (2, 4))
  | .loadImageProgram p q => some (p, q, 0x10, some (3, 4))
  | .loadImageChannelMap p q => some (p, q, 0x10, some (4, 4))
  | .commit p q => some (p, q, 0x11, none)
  | .place p q => some (p, q, 0x12, none)
  | .getPlacementReport p q => some (p, q, 0x13, some (0, 2))
  | .getPlacementPostcode p q => some (p, q, 0x13, some (1, 2))
  | .getPlacementPe p q => some (p, q, 0x13, some (2, 2))
  | .loadParams p q => some (p, q, 0x14, none)
  | .budgetGrant p q => some (p, q, 0x20, none)
  | .budgetQueryLedger p q => some (p, q, 0x21, some (0, 1))
  | .budgetQuerySection p q => some (p, q, 0x21, some (1, 1))
  | .runStart p q => some (p, q, 0x30, none)
  | .runStop p q => some (p, q, 0x31, none)
  | .captureRead p q => some (p, q, 0x32, none)
  | .probeSet p q => some (p, q, 0x40, none)
  | .probeRead p q => some (p, q, 0x41, none)
  | .claim p q => some (p, q, 0x50, none)
  | .release p q => some (p, q, 0x51, none)
  | .sessionOpenNonsecure p q => some (p, q, 0x60, some (0, 3))
  | .sessionOpenChallenge p q => some (p, q, 0x60, some (1, 3))
  | .sessionClose p q => some (p, q, 0x60, some (2, 3))
  | .sessionOpenSecure p q => some (p, q, 0x60, some (3, 3))
  | .attest p q => some (p, q, 0x61, none)
  | .sealRun p q => some (p, q, 0x62, none)
  | .wipe p q => some (p, q, 0x63, none)
  | .lifecycle p q => some (p, q, 0x64, none)
  | .resetCore p q => some (p, q, 0x70, some (0, 2))
  | .resetSystem p q => some (p, q, 0x70, some (1, 2))
  | .resetBlock p q => some (p, q, 0x70, some (2, 2))
  | .selftest p q => some (p, q, 0x71, none)
  | .readback p q => some (p, q, 0x72, none)
  | .regRead p q => some (p, q, 0x7E, none)
  | .regWrite p q => some (p, q, 0x7F, none)
  | _ => none

/-- Whether a command's operands are ones that its row can have. -/
def Instr.wellFormed (c : Instr) : Bool :=
  match c with
  | .illegalInstruction i =>
    listedOpcodes.all (fun r => (i.extractLsb' 40 8).toNat < r.1 || r.2 < (i.extractLsb' 40 8).toNat)
  | .unknownOpcodeRequest _ q => q.opcode ≠ 0 && !listedRequests.contains q.opcode
  | .bypass op => !scanOpcodes.contains op
  | c =>
    match c.requestRow with
    | none => true
    | some (_, q, op, none) => q.opcode == op
    | some (_, q, op, some (k, top)) => q.opcode == op && (q.selector == k || decide (top < q.selector))

end Sys2Proof
end

