-- ==== Sys2Proof/Certificates/Slice0/Obligations.lean ====
section
/-! DEFINITION. The statements for the provers. -/

open Sys2Proof Sys2Proof.Machine

/-- What a power-on reset leaves where the spec gives a value: R234 (every group and accumulator clean, TOP 0, RES 1), R131
(ISN 0), R583 (every pigeonhole container 0, owners 0x01 and 0x02 of banks 0 and 1), R98 (no failed row), R494 (ALIVE low),
R383 (beat counter and epoch 0), R629 (no session but session 0), R615 (every semaphore free). -/
def Obligations.ResetLeavesSpecValues : Prop :=
  State.reset.seq.dDirty = 0 ∧ State.reset.seq.acDirty = 0 ∧ State.reset.seq.top = 0 ∧ State.reset.seq.res = 1
    ∧ State.reset.arr.isn = 0 ∧ (∀ b c, State.reset.cont b c = 0) ∧ State.reset.owner 0 = 1 ∧ State.reset.owner 1 = 2
    ∧ State.reset.cv.failed = [] ∧ State.reset.out.alive = false ∧ State.reset.tim.beat = 0 ∧ State.reset.tim.epoch = 0
    ∧ (∀ p, (State.reset.port p).sessions = []) ∧ (∀ n, State.reset.sem n = (0, 0)) ∧ State.reset.pending = []

/-- A step takes the command at the front of the queue and runs it with the rest of the queue. -/
def Obligations.StepRunsFrontCommand : Prop :=
  (∀ (s : State) (c : Instr), step (s.push c) = exec c s)
    ∧ ∀ (s : State) (c : Instr) (rest : List Instr), s.pending = c :: rest → step s = exec c { s with pending := rest }

/-- On an empty queue the module's own clocks go on (the model's choice, log entry 2): R614's leases run down, the array
program goes on, the service cores and the Tweed regions take a clock. Before a module has started, with no lease, no command
of a port, no ACTIVE region, every lane disabled and nothing on its way into the module or the network, nothing changes. R164,
R166, R184, R186, R188, R198: the array program's instruction word runs the instruction whose opcode stands in bits [47:40],
on its bits [39:0], by the opcode columns; every other opcode raises trap 0x01. With an empty queue the word at PC of
instruction memory runs, where nothing holds scalar issue. R157, R177, R585, R709: a service core executes an instruction in
its own context: an array macro, LOCK, UNLOCK, WAITB or CHKPT traps 0x01 there, and nothing of the module but the core changes
unless the core stops at a halting fault or a window access of its own, which goes under its own owner code, comes to its end.
-/
def Obligations.IdleStepRunsProgram : Prop :=
  (
    (∀ s : State, s.pending = [] → step s = .next s.idle)
      ∧ ∀ s : State, s.pending = [] → s.sys.boot ≠ .done → s.running = false → s.sys.sems = [] → s.sys.params = none →
        (∀ p, (s.port p).jobs = []) → (∀ r < 16, s.rstate r ≠ 3) → (∀ l < 144, s.laneState l = 0) → s.sys.posted = [] →
        s.noc.queued = [] → s.noc.leaving = false → step s = .next s)
  ∧ (
    let rows : List (Nat × (BitVec 40 → Instr)) :=
      [(0x00, .nop), (0x01, .mov), (0x02, .movi), (0x03, .add), (0x04, .addi), (0x05, .sub), (0x06, .subi), (0x07, .adc),
       (0x08, .sbc), (0x09, .and_), (0x0A, .andi), (0x0B, .or_), (0x0C, .ori), (0x0D, .xor), (0x0E, .xori), (0x0F, .not_),
       (0x10, .neg), (0x11, .abs), (0x12, .cmp), (0x13, .cmpi), (0x14, .shl), (0x15, .shli), (0x16, .shr), (0x17, .shri),
       (0x18, .sar), (0x19, .sari), (0x1A, .sal), (0x1B, .sali), (0x1C, .rol), (0x1D, .roli), (0x1E, .ror), (0x1F, .rori),
       (0x20, .mull), (0x21, .mulu), (0x22, .muls), (0x23, .macu), (0x24, .macs), (0x25, .divu), (0x26, .divs),
       (0x27, .acrd), (0x28, .acwr), (0x29, .acclr), (0x30, .ld), (0x31, .st), (0x32, .ldac), (0x33, .stac),
       (0x40, .fadd_32), (0x41, .fsub_32), (0x42, .fmul_32), (0x43, .fma_32), (0x44, .fdiv_32), (0x45, .fsqrt_32),
       (0x46, .fcmp_32), (0x48, .fadd_64), (0x49, .fsub_64), (0x4A, .fmul_64), (0x4B, .fma_64), (0x4C, .fdiv_64),
       (0x4D, .fsqrt_64), (0x4E, .fcmp_64), (0x4F, .fcvt), (0x60, .b), (0x61, .call), (0x62, .callr), (0x63, .jmp),
       (0x64, .ret), (0x65, .retl), (0x66, .save), (0x67, .restore), (0x68, .rep), (0x69, .repr), (0x6A, .lock),
       (0x6B, .unlock), (0x6C, .waitb), (0x6D, .scall), (0x6E, .sret), (0x6F, .rtt), (0x70, .halt), (0x71, .chkpt),
       (0x80, .aadd), (0x81, .asub), (0x82, .acmp), (0x83, .aneg), (0x84, .aabs), (0x85, .amulu), (0x86, .amuls),
       (0x87, .adivu), (0x88, .aremu), (0x89, .adivs), (0x8A, .arems), (0x8B, .ashl), (0x8C, .ashr), (0x8D, .asar),
       (0x8E, .asal), (0x8F, .arol), (0x90, .aror), (0x91, .amov), (0x92, .abool2), (0x93, .abool3), (0x94, .abcast),
       (0xA0, .afadd_32), (0xA1, .afsub_32), (0xA2, .afmul_32), (0xA3, .afma_32), (0xA4, .afdiv_32), (0xA5, .afsqrt_32),
       (0xA6, .afcmp_32), (0xA8, .afadd_64), (0xA9, .afsub_64), (0xAA, .afmul_64), (0xAB, .afma_64), (0xAC, .afdiv_64),
       (0xAD, .afsqrt_64), (0xAE, .afcmp_64), (0xAF, .afcvt), (0xB0, .ashift), (0xB1, .agath), (0xB2, .agathor),
       (0xB8, .agset), (0xB9, .agnz), (0xBA, .agclr), (0xBB, .agdlv), (0xBC, .amset), (0xBD, .amall), (0xBE, .amnot),
       (0xBF, .amand), (0xC0, .ain), (0xC1, .aout), (0xC2, .atake), (0xC3, .apost), (0xC4, .afclr), (0xC5, .afmov),
       (0xC6, .aside)]
    (∀ e ∈ rows, ∀ (s : State) (i : BitVec 48), fld i 40 8 = e.1 → exec (e.2 (i.extractLsb' 0 40)) s = .next (s.runWord i))
    ∧ (∀ (s t : State) (i : BitVec 48), s.Issues [] t → (∀ e ∈ rows, e.1 ≠ fld i 40 8) → s.runWord i = t.trap 0x01)
    ∧ (∀ s : State, s.pending = [] → s.microsecond.running = true → s.microsecond.seq.wait = .none →
        step s = .next ((s.microsecond.runWord (sget 0 s.microsecond.smem.imem s.microsecond.seq.pc.toNat)).coresStep).fabricTick))
  ∧ (
    ∀ (s : State) (n : Nat) (c : Core) (i : BitVec 48), n < 4 → s.sys.cores[n]? = some c → s.sys.coresUp.getLsbD n = true →
      s.sys.boot = .done → s.sys.shutdown = false →
      let c' := s.coreWord n c i
      let put (t : State) : State := t.mapSys (fun y => { y with cores := y.cores.set n c' })
      (c.seq.wait.stallsStream = false → c'.seq.stopped = false → s.coreInstr n i = put s)
      ∧ (c.seq.wait.stallsStream = false → c'.seq.stopped = true → s.coreInstr n i = (put s).coreFailed n)
      ∧ (c.seq.wait.stallsStream = true → c'.seq.stopped = false →
        let u := (s.seenBy n c).completeWindow
        s.coreInstr n i = put { s with mem := u.mem, regs := u.regs, free := u.free, noc := u.noc })
      ∧ (s.seenBy n c).seq.unit = 4 + n
      ∧ (∀ t, (0x80 ≤ fld i 40 8 ∨ fld i 40 8 = 0x6A ∨ fld i 40 8 = 0x6B ∨ fld i 40 8 = 0x6C ∨ fld i 40 8 = 0x71) → c.seq.wait = .none →
        (s.seenBy n c).Issues [] t → c'.seq = (t.trap 0x01).seq ∧ c'.smem = (t.trap 0x01).smem))

/-- The four addressed memories are in canonical form at reset: DRAM (R574), the pigeonhole banks (R583), instruction memory
and data memory (R175, R672). -/
def Obligations.MemoriesCanonicalAtReset : Prop :=
State.reset.memoriesCanonical = true

/-- Every step keeps the four addressed memories in canonical form, so that equal memories are equal data: DRAM (R571), the
pigeonhole banks (R581), instruction memory and data memory (R175). -/
def Obligations.StepKeepsMemoriesCanonical : Prop :=
  ∀ s s' : State, s.memoriesCanonical = true → step s = .next s' → s'.memoriesCanonical = true

/-- Every well-formed command runs in every state: nothing faults, and only an operand that its row cannot have is refused, an
instruction word with a listed opcode as an illegal one (R166), a request of another row (R623, R632) or a test-port opcode of
another row as BYPASS (R737). -/
def Obligations.WellFormedCommandsRun : Prop :=
  ∀ (c : Instr) (s : State),
    if c.wellFormed then ∃ t, exec c s = .next t else exec c s = .refused .illFormed

/-- R625 steps 1 to 5, for every request row: the first check that fails is the reply's status, with detail 0 and no payload
but the empty bitmap of a command with parts under a header version of 2 or above (R641); step 3 is the header's version
against the agreed one and the command's (R632), which HELLO escapes (R628). A port whose requests the interpreter does not
take (R619, R620) leaves the packet, and a packet that reaches past the tail is discarded with no reply (R618). R625 steps 6
to 8, R627, R631, R656: past step 5 a request is BAD_PARAMETER for an option bit, an unlisted block, a block that its command
does not name or a bad field; then come what its world and claims give, WRONG_MODE, BUSY beside another command that must not
run with it, and LIFECYCLE; a request that passes all of them is carried out. -/
def Obligations.RequestsAnswerFirstFailure : Prop :=
  (
    ∀ (c : Instr) (p : Port) (q : Request) (op : BitVec 8) (k : Option (Nat × Nat)) (s t : State),
      (c.requestRow = some (p, q, op, k) ∧ c.wellFormed = true) →
      (s.interprets (.ring p) = false → exec c s = .next s)
      ∧ (s.interprets (.ring p) = true → s.takePacket p q = (false, t) → exec c s = .next t)
      ∧ (s.interprets (.ring p) = true → s.takePacket p q = (true, t) →
        let answer (st : Status) : Prop := exec c s = .next (t.answerTo (.ring p) q st 0
          (if op ∈ [0x14#8, 0x63#8, 0x71#8, 0x7E#8, 0x7F#8] ∧ 2 ≤ q.ver then List.replicate 11 0 else []))
        let high : Bool := ([q.w0, q.w1, q.w2, q.w3] ++ q.conts).any (fun x => x.extractLsb' 24 8 != 0)
        let crc : Bool := crc24 q.words == q.w3.setWidth 24
        let least : Nat := if op = 0x20 ∨ op = 0x21 then 2 else if op = 0x60 ∨ op = 0x61 ∨ op = 0x62 then 3 else 1
        let old : Bool := op ≠ 1 && (decide (t.rfld (mbx p) 0 0 4 < q.ver) || decide (q.ver < least))
        (high = true → answer .badParameter)
        ∧ (high = false → crc = false → answer .badFrame)
        ∧ (high = false → crc = true → old = true → answer .versionMismatch)
        ∧ (high = false → crc = true → old = false → t.sessionOpen (.ring p) q.sess = false → answer .denied)
        ∧ (high = false → crc = true → old = false → t.sessionOpen (.ring p) q.sess = true → fld q.w1 1 7 ≠ 0 →
          answer .badParameter)))
  ∧ (
    ∀ (t : State) (v : Via) (q : Request) (g : Demand), t.check5 v q g.ver = .ok →
      let fields : Bool := decide (fld q.w1 1 7 = 0) && (q.block == 0 || blockListed q.block)
        && (q.block == 0 || [0x70, 0x7E, 0x7F].contains q.op) && g.fields
      (fields = false → t.check v q g = (.badParameter, 0))
      ∧ (fields = true → g.permit.1 ≠ .ok → t.check v q g = g.permit)
      ∧ (fields = true → g.permit.1 = .ok → g.mode = false → t.check v q g = (.wrongMode, 0))
      ∧ (fields = true → g.permit.1 = .ok → g.mode = true →
        (t.held631 q.op = true → t.check v q g = (.busy, 0))
        ∧ (t.held631 q.op = false → t.lifeBars q.op g.early = true → t.check v q g = (.lifecycle, 0))
        ∧ (t.held631 q.op = false → t.lifeBars q.op g.early = false → t.check v q g = (.ok, 0))))

/-- R620, R623, R626: a reply with room in the reply ring, none held before it, puts its four header words and its payload
there and moves the tail; the header repeats the request's with the payload's length, the status and detail in word 2 and the
CRC in word 3. QUIET suppresses an OK. R621, R622: an event record with room in the event ring: code, status and item; source
block and session; the low 24 bits of the postmark; the sequence number, which counts up. Without room the record is lost and
HOST_MB_EVLOST counts. -/
def Obligations.RepliesAndEventsGoToRings : Prop :=
  (
    ∀ (s : State) (p : Port) (q : Request) (st : Status) (detail : Nat) (pl : List Word),
      (st = .ok → q.w1.getLsbD 0 = true → s.answerTo (.ring p) q st detail pl = s)
      ∧ ((st ≠ .ok ∨ q.w1.getLsbD 0 = false) → (s.port p).replies = [] → pl.length < 4096 → detail < 65536 →
        ∀ at_ pad, s.ringRoom p false ((4 + pl.length + 3) / 4 * 4) = some (at_, pad) →
        let t := s.answerTo (.ring p) q st detail pl
        let w (i : Nat) : Word := (t.cont (portIdx p) (0x20000 + at_ + i)).setWidth 24
        (∀ i < 24, (w 0).getLsbD i = if i < 12 then (BitVec.ofNat 12 pl.length).getLsbD i else q.w0.getLsbD i)
          ∧ w 1 = q.w1.setWidth 24 ∧ (w 2).toNat = st.code * 65536 + detail ∧ w 3 = crc24 pl
          ∧ (∀ i < pl.length, pl[i]? = some (w (4 + i)))
          ∧ (t.reg (mbx p) 0x010).toNat = (at_ + (4 + pl.length + 3) / 4 * 4) % 65536
          ∧ (t.reg (dbl p) 0x020).getLsbD 0 = true))
  ∧ (
    ∀ (s : State) (p : Port) (code item src sess : Nat) (st : Status),
      code < 256 → item < 256 → src < 4096 → sess < 4096 →
      let t := s.eventTo p code item st src sess
      (t.port p).evSeq = (s.port p).evSeq + 1
      ∧ (∀ at_ pad, s.ringRoom p true 4 = some (at_, pad) →
        let w (i : Nat) : Nat := (t.cont (portIdx p) (0x30000 + at_ + i)).toNat
        w 0 = code * 65536 + st.code * 256 + item ∧ w 1 = sess * 4096 + src ∧ w 2 = s.postmark.toNat % 2 ^ 24
          ∧ w 3 = ((s.port p).evSeq).toNat ∧ (t.reg (mbx p) 0x018).toNat = (at_ + 4) % 16384
          ∧ (t.reg (dbl p) 0x020).getLsbD 1 = true)
      ∧ (s.ringRoom p true 4 = none → t.reg (mbx p) 0x01C = (s.count (mbx p) 0x01C 1).reg (mbx p) 0x01C
        ∧ (t.reg (dbl p) 0x020).getLsbD 6 = true ∧ t.mem = s.mem))

/-- R182, R184: ADD, ADDI and ADC write the sum modulo 2^24 to d; for a D destination C is the carry out of bit 23 and V is
set when the signed sum does not fit, for an A destination no flag changes. R182, R184: SUB, SUBI and SBC write the difference
modulo 2^24, and CMP and CMPI write no register; C means no borrow and V that the signed difference does not fit. -/
def Obligations.AddAndSubtractWriteResultAndFlags : Prop :=
  (
    ∀ e ∈ ([(.add, false, fun _ => false), (.addi, true, fun _ => false), (.adc, false, crC)] :
      List ((BitVec 40 → Instr) × Bool × (BitVec 5 → Bool))),
    ∀ (s t : State) (w : BitVec 40),
      s.Issues (if e.2.1 then [fRs1 w] else [fRs1 w, fRs2 w]) t →
      (if e.2.1 then legalRRI isDA isDA w else legalRRR isDA isDA isDA unused w) = true →
      let x := daGet t.seq (fRs1 w)
      let y := if e.2.1 then fImm w else daGet t.seq (fRs2 w)
      let c := (e.2.2 t.seq.cr).toNat
      let u : Nat := x.toNat + y.toNat + c
      let i : Int := x.toInt + y.toInt + c
      ∃ t', exec (e.1 w) s = .next t' ∧ t.SeqOnly t' ∧ t.seq.RegsOnly t'.seq ∧ t.seq.Wrote t'.seq (fRd w) (BitVec.ofNat 24 u)
        ∧ t.seq.Retired t'.seq t.cycle 1
        ∧ t'.seq.cr = (if isD (fRd w) then
            crNZCV t.seq.cr (BitVec.ofNat 24 u) (decide (2 ^ 24 ≤ u)) (decide (i < -2 ^ 23 ∨ 2 ^ 23 ≤ i)) else t.seq.cr))
  ∧ (
    ∀ e ∈ ([(.sub, false, true, fun _ => true), (.subi, true, true, fun _ => true), (.sbc, false, true, crC),
        (.cmp, false, false, fun _ => true), (.cmpi, true, false, fun _ => true)] :
      List ((BitVec 40 → Instr) × Bool × Bool × (BitVec 5 → Bool))),
    ∀ (s t : State) (w : BitVec 40),
      s.Issues (if e.2.1 then [fRs1 w] else [fRs1 w, fRs2 w]) t →
      (if e.2.1 then legalRRI (if e.2.2.1 then isDA else unused) isDA w
        else legalRRR (if e.2.2.1 then isDA else unused) isDA isDA unused w) = true →
      let x := daGet t.seq (fRs1 w)
      let y := if e.2.1 then fImm w else daGet t.seq (fRs2 w)
      let b : Int := 1 - (e.2.2.2 t.seq.cr).toNat
      let u : Int := x.toNat - y.toNat - b
      let i : Int := x.toInt - y.toInt - b
      ∃ t', exec (e.1 w) s = .next t' ∧ t.SeqOnly t' ∧ t.seq.RegsOnly t'.seq
        ∧ (if e.2.2.1 then t.seq.Wrote t'.seq (fRd w) (BitVec.ofInt 24 u) else t.seq.WroteNone t'.seq)
        ∧ t.seq.Retired t'.seq t.cycle 1
        ∧ t'.seq.cr = (if e.2.2.1 && !isD (fRd w) then t.seq.cr else
            crNZCV t.seq.cr (BitVec.ofInt 24 u) (decide (0 ≤ u)) (decide (i < -2 ^ 23 ∨ 2 ^ 23 ≤ i))))

/-- R182, R184: AND, OR and XOR write the bitwise result and set N and Z alone; an A destination changes no flag. R182, R184,
R318: NOT sets N and Z alone; NEG and ABS clear C and set V for the most negative value alone; MOV and MOVI change no flag.
R184: NOP changes no register and no flag; MOV copies a register and MOVI loads the 24-bit immediate, with no flag. -/
def Obligations.LogicAndMovesWriteResult : Prop :=
  (
    ∀ e ∈ ([(.and_, false, fun x y => x &&& y), (.andi, true, fun x y => x &&& y), (.or_, false, fun x y => x ||| y),
        (.ori, true, fun x y => x ||| y), (.xor, false, fun x y => x ^^^ y), (.xori, true, fun x y => x ^^^ y)] :
      List ((BitVec 40 → Instr) × Bool × (Word → Word → Word))),
    ∀ (s t : State) (w : BitVec 40),
      s.Issues (if e.2.1 then [fRs1 w] else [fRs1 w, fRs2 w]) t →
      (if e.2.1 then legalRRI isDA isDA w else legalRRR isDA isDA isDA unused w) = true →
      let v := e.2.2 (daGet t.seq (fRs1 w)) (if e.2.1 then fImm w else daGet t.seq (fRs2 w))
      ∃ t', exec (e.1 w) s = .next t' ∧ t.SeqOnly t' ∧ t.seq.RegsOnly t'.seq ∧ t.seq.Wrote t'.seq (fRd w) v
        ∧ t.seq.Retired t'.seq t.cycle 1
        ∧ t'.seq.cr = (if isD (fRd w) then crNZCV t.seq.cr v (crC t.seq.cr) (crV t.seq.cr) else t.seq.cr))
  ∧ (
    ∀ e ∈ ([(.not_, fun x => ~~~x, fun r _ => crC r, fun r _ => crV r), (.neg, fun x => 0 - x, fun _ _ => false, fun _ x => x == 0x800000#24),
        (.abs, fun x => if x.toInt < 0 then 0 - x else x, fun _ _ => false, fun _ x => x == 0x800000#24)] :
      List ((BitVec 40 → Instr) × (Word → Word) × (BitVec 5 → Word → Bool) × (BitVec 5 → Word → Bool))),
    ∀ (s t : State) (w : BitVec 40),
      s.Issues [fRs1 w] t → legalRRR isDA isDA unused unused w = true →
      let x := daGet t.seq (fRs1 w)
      ∃ t', exec (e.1 w) s = .next t' ∧ t.SeqOnly t' ∧ t.seq.RegsOnly t'.seq ∧ t.seq.Wrote t'.seq (fRd w) (e.2.1 x)
        ∧ t.seq.Retired t'.seq t.cycle 1
        ∧ t'.seq.cr = (if isD (fRd w) then crNZCV t.seq.cr (e.2.1 x) (e.2.2.1 t.seq.cr x) (e.2.2.2 t.seq.cr x) else t.seq.cr))
  ∧ (
    (∀ (s t : State) (w : BitVec 40), s.Issues [] t → legalRRR unused unused unused unused w = true →
      ∃ t', exec (.nop w) s = .next t' ∧ t.SeqOnly t' ∧ t.seq.RegsOnly t'.seq ∧ t.seq.WroteNone t'.seq
        ∧ t.seq.Retired t'.seq t.cycle 1 ∧ t'.seq.cr = t.seq.cr)
    ∧ (∀ (s t : State) (w : BitVec 40), s.Issues [fRs1 w] t → legalRRR isDA isDA unused unused w = true →
      ∃ t', exec (.mov w) s = .next t' ∧ t.SeqOnly t' ∧ t.seq.RegsOnly t'.seq
        ∧ t.seq.Wrote t'.seq (fRd w) (daGet t.seq (fRs1 w)) ∧ t.seq.Retired t'.seq t.cycle 1 ∧ t'.seq.cr = t.seq.cr)
    ∧ (∀ (s t : State) (w : BitVec 40), s.Issues [] t → legalRRI isDA unused w = true →
      ∃ t', exec (.movi w) s = .next t' ∧ t.SeqOnly t' ∧ t.seq.RegsOnly t'.seq
        ∧ t.seq.Wrote t'.seq (fRd w) (w.extractLsb' 0 24) ∧ t.seq.Retired t'.seq t.cycle 1 ∧ t'.seq.cr = t.seq.cr))

/-- R182, R319: the shifts and rotates, register and immediate: result, last bit out and SAL's overflow for every count; a
count of 0 changes no flag. A row gives bit `i` of the result, C and V for operand `x` and count `c`. -/
def Obligations.ShiftsFollowTable : Prop :=
  let shl (x : Word) (c i : Nat) : Bool := decide (c ≤ i) && x.getLsbD (i - c)
  let out (x : Word) (c : Nat) : Bool := decide (c ≤ 24) && x.getLsbD (24 - c)
  let sal (x : Word) (c : Nat) : Bool :=
    if c < 24 then (List.range 24).any (fun i => decide (23 - c ≤ i) && x.getLsbD i != x.getLsbD 23) else decide (x ≠ 0)
  let no (_ : Word) (_ : Nat) : Bool := false
  ∀ e ∈ ([(.shl, false, shl, out, no), (.shli, true, shl, out, no),
      (.shr, false, fun x c i => x.getLsbD (i + c), fun x c => x.getLsbD (c - 1), no),
      (.shri, true, fun x c i => x.getLsbD (i + c), fun x c => x.getLsbD (c - 1), no),
      (.sar, false, fun x c i => x.getLsbD (min 23 (i + c)), fun x c => x.getLsbD (min 23 (c - 1)), no),
      (.sari, true, fun x c i => x.getLsbD (min 23 (i + c)), fun x c => x.getLsbD (min 23 (c - 1)), no),
      (.sal, false, shl, out, sal), (.sali, true, shl, out, sal),
      (.rol, false, fun x c i => x.getLsbD ((i + 24 - c % 24) % 24), fun x c => x.getLsbD ((24 - c % 24) % 24), no),
      (.roli, true, fun x c i => x.getLsbD ((i + 24 - c % 24) % 24), fun x c => x.getLsbD ((24 - c % 24) % 24), no),
      (.ror, false, fun x c i => x.getLsbD ((i + c) % 24), fun x c => x.getLsbD ((23 + c) % 24), no),
      (.rori, true, fun x c i => x.getLsbD ((i + c) % 24), fun x c => x.getLsbD ((23 + c) % 24), no)] :
    List ((BitVec 40 → Instr) × Bool × (Word → Nat → Nat → Bool) × (Word → Nat → Bool) × (Word → Nat → Bool))),
  ∀ (s t : State) (w : BitVec 40),
    s.Issues (if e.2.1 then [fRs1 w] else [fRs1 w, fRs2 w]) t →
    (if e.2.1 then legalRRI isDA isDA w else legalRRR isDA isDA isDA unused w) = true →
    let x := daGet t.seq (fRs1 w)
    let c := (if e.2.1 then fImm w else daGet t.seq (fRs2 w)).toNat
    ∃ (t' : State) (v : Word), exec (e.1 w) s = .next t' ∧ t.SeqOnly t' ∧ t.seq.RegsOnly t'.seq ∧ t.seq.Wrote t'.seq (fRd w) v
      ∧ (∀ i < 24, v.getLsbD i = e.2.2.1 x c i) ∧ t.seq.Retired t'.seq t.cycle 1
      ∧ t'.seq.cr = (if isD (fRd w) && decide (c ≠ 0) then crNZCV t.seq.cr v (e.2.2.2.1 x c) (e.2.2.2.2 x c) else t.seq.cr)

/-- R312 to R315: the products. MULL writes the low 24 bits and N and Z; MULU and MULS write, and MACU and MACS add, the
product extended to 72 bits, modulo 2^72, with no flag changed, and the accumulator becomes dirty. Outside a locked section
the issue takes 1 + k cycles, k the least for which the bits of s2 from 4k up are all 0, or for MULS and MACS all equal to bit
23; inside 7. R185, R233, R234: ACRD reads and ACWR writes bits [24j + 23 : 24j] of an accumulator, j = 0 to 2; ACCLR makes it
read 0. -/
def Obligations.MultipliesWriteProducts : Prop :=
  (
    ∀ (s t : State) (w : BitVec 40) (signed : Bool),
      let x := daGet t.seq (fRs1 w)
      let y := daGet t.seq (fRs2 w)
      let fits (k : Nat) : Prop := ∀ i < 24, 4 * k ≤ i → y.getLsbD i = (signed && y.getLsbD 23)
      let p : BitVec 72 := if signed then BitVec.ofInt 72 (x.toInt * y.toInt) else BitVec.ofNat 72 (x.toNat * y.toNat)
      ∀ k, (if t.seq.locked then k = 6 else 1 ≤ k ∧ k ≤ 6 ∧ fits k ∧ ∀ j < k, 1 ≤ j → ¬ fits j) →
      (s.Issues [fRs1 w, fRs2 w] t → legalRRR isDA isDA isDA unused w = true → signed = false →
        ∃ t', exec (.mull w) s = .next t' ∧ t.SeqOnly t' ∧ t.seq.RegsOnly t'.seq
          ∧ t.seq.Wrote t'.seq (fRd w) (BitVec.ofNat 24 (x.toNat * y.toNat)) ∧ t.seq.Retired t'.seq t.cycle (1 + k)
          ∧ t'.seq.cr = (if isD (fRd w) then
              crNZCV t.seq.cr (BitVec.ofNat 24 (x.toNat * y.toNat)) (crC t.seq.cr) (crV t.seq.cr) else t.seq.cr))
      ∧ (s.Issues [fRs1 w, fRs2 w] t → legalRRR isAC isDA isDA unused w = true →
        ∃ t', exec (if signed then .muls w else .mulu w) s = .next t' ∧ t.SeqOnly t' ∧ t.seq.RegsOnly t'.seq
          ∧ t.seq.WroteAc t'.seq (fRd w - 48) p ∧ t.seq.Retired t'.seq t.cycle (1 + k) ∧ t'.seq.cr = t.seq.cr)
      ∧ (s.Issues [fRs1 w, fRs2 w, fRd w] t → legalRRR isAC isDA isDA unused w = true →
        ∃ t', exec (if signed then .macs w else .macu w) s = .next t' ∧ t.SeqOnly t' ∧ t.seq.RegsOnly t'.seq
          ∧ t.seq.WroteAc t'.seq (fRd w - 48) (acGet t.seq (fRd w - 48) + p) ∧ t.seq.Retired t'.seq t.cycle (1 + k)
          ∧ t'.seq.cr = t.seq.cr ∧ t'.seq.acDirty.getLsbD (fRd w - 48) = true))
  ∧ (
    ∀ (s t : State) (w : BitVec 40),
      (s.Issues [fRs1 w] t → legalRRI isDA isAC w = true → fld w 0 24 ≤ 2 →
        ∃ (t' : State) (v : Word), exec (.acrd w) s = .next t' ∧ t.SeqOnly t' ∧ t.seq.RegsOnly t'.seq
          ∧ t.seq.Wrote t'.seq (fRd w) v
          ∧ (∀ i < 24, v.getLsbD i = (acGet t.seq (fRs1 w - 48)).getLsbD (24 * fld w 0 24 + i))
          ∧ t.seq.Retired t'.seq t.cycle 1 ∧ t'.seq.cr = t.seq.cr)
      ∧ (s.Issues [fRs1 w, fRd w] t → legalRRI isAC isDA w = true → fld w 0 24 ≤ 2 →
        ∃ (t' : State) (v : BitVec 72), exec (.acwr w) s = .next t' ∧ t.SeqOnly t' ∧ t.seq.RegsOnly t'.seq
          ∧ t.seq.WroteAc t'.seq (fRd w - 48) v
          ∧ (∀ i < 72, v.getLsbD i = (if i / 24 = fld w 0 24 then (daGet t.seq (fRs1 w)).getLsbD (i % 24)
              else (acGet t.seq (fRd w - 48)).getLsbD i))
          ∧ t.seq.Retired t'.seq t.cycle 1 ∧ t'.seq.cr = t.seq.cr)
      ∧ (s.Issues [] t → legalRRR isAC unused unused unused w = true →
        ∃ t', exec (.acclr w) s = .next t' ∧ t.SeqOnly t' ∧ t.seq.RegsOnly t'.seq ∧ t.seq.WroteAc t'.seq (fRd w - 48) 0
          ∧ t.seq.Retired t'.seq t.cycle 1 ∧ t'.seq.cr = t.seq.cr))

/-- R182, R316, R317, R318: DIVU and DIVS write quotient and remainder to d and d + 1 in 10 cycles, of the values that s1 and
s2 had before; a non-zero signed remainder has the dividend's sign; a divisor of 0 gives an all-ones quotient and the
dividend, and D; the most negative value by −1 gives itself and 0, and V. -/
def Obligations.DividesWriteQuotientAndRemainder : Prop :=
  ∀ (s t : State) (w : BitVec 40) (signed : Bool),
    s.Issues [fRs1 w, fRs2 w] t → legalRRR isEvenD isDA isDA unused w = true →
    let x := daGet t.seq (fRs1 w)
    let y := daGet t.seq (fRs2 w)
    let edge : Bool := signed && x == 0x800000#24 && y == 0xFFFFFF#24
    ∃ (t' : State) (q r : Word), exec (if signed then .divs w else .divu w) s = .next t' ∧ t.SeqOnly t'
      ∧ t.seq.RegsOnly t'.seq ∧ daGet t'.seq (fRd w) = q ∧ daGet t'.seq (fRd w + 1) = r
      ∧ (∀ k < 48, k ≠ fRd w → k ≠ fRd w + 1 → daGet t'.seq k = daGet t.seq k)
      ∧ (∀ n, acGet t'.seq n = acGet t.seq n)
      ∧ (if y = 0 then q = 0xFFFFFF#24 ∧ r = x else if edge then q = 0x800000#24 ∧ r = 0
        else if signed then q.toInt = x.toInt.tdiv y.toInt ∧ r.toInt = x.toInt - q.toInt * y.toInt
          ∧ (r ≠ 0 → (r.toInt < 0 ↔ x.toInt < 0))
        else q.toNat = x.toNat / y.toNat ∧ r.toNat = x.toNat - q.toNat * y.toNat)
      ∧ t.seq.Retired t'.seq t.cycle 10
      ∧ t'.seq.cr = mkCr (decide (y = 0)) (crN t.seq.cr) (crZ t.seq.cr) (crC t.seq.cr) edge

/-- R171, R173, R174, R175: LD and LDAC read one or three words of data memory into a D, A or AC register, in every addressing
mode, and update the base register; a non-secure context stays below DSECBASE (R212). R171, R173, R174, R175: ST and STAC
write one or three words of data memory, in every addressing mode, and update the base register; every other word of memory
stays. -/
def Obligations.LoadsAndStoresReachDataMemory : Prop :=
  (
    ∀ (s t : State) (w : BitVec 40) (ac : Bool),
      let n := if ac then 3 else 1
      let a := t.seq.usedAddress w
      s.Issues ((32 + fld w 30 4) :: if 3 ≤ fld w 27 3 then [32 + fld w 0 4] else []) t →
      (if ac then isAC (fRd w) else isDA (fRd w)) = true → fld w 27 3 ≤ 4 → fld w 24 3 = 0 → (3 ≤ fld w 27 3 → fld w 4 20 = 0) →
      a + n ≤ 2 ^ 18 → (t.seq.world = true ∨ a + n ≤ t.seq.dsecBase.toNat) → (∀ i < n, a + i ∉ t.smem.dmemBad) →
      let x (i : Nat) : Word := t.smem.word (a + i)
      ∃ t', exec (if ac then .ldac w else .ld w) s = .next t' ∧ t.SeqOnly t' ∧ t.seq.RegsOnly t'.seq
        ∧ t.seq.Moved t'.seq w (if ac then none else some (fRd w, x 0)) (if ac then some (fRd w - 48, x 2 ++ x 1 ++ x 0) else none)
        ∧ t'.seq.cr = t.seq.cr ∧ t'.seq.pc = t.seq.nextPc ∧ t'.seq.freeAt = t.cycle + n
        ∧ t'.seq.loaded = some (BitVec.ofNat 6 (fRd w)))
  ∧ (
    ∀ (s t : State) (w : BitVec 40) (ac : Bool),
      let n := if ac then 3 else 1
      let a := t.seq.usedAddress w
      s.Issues (fRd w :: (32 + fld w 30 4) :: if 3 ≤ fld w 27 3 then [32 + fld w 0 4] else []) t →
      (if ac then isAC (fRd w) else isDA (fRd w)) = true → fld w 27 3 ≤ 4 → fld w 24 3 = 0 → (3 ≤ fld w 27 3 → fld w 4 20 = 0) →
      a + n ≤ 2 ^ 18 → (t.seq.world = true ∨ a + n ≤ t.seq.dsecBase.toNat) →
      ∃ t', exec (if ac then .stac w else .st w) s = .next t' ∧ { t' with seq := t.seq, smem := t.smem } = t
        ∧ t.seq.RegsOnly t'.seq ∧ t.seq.Moved t'.seq w none none ∧ t'.seq.cr = t.seq.cr ∧ t.seq.Retired t'.seq t.cycle n
        ∧ (∀ y, t'.smem.word y = if y < a ∨ a + n ≤ y then t.smem.word y
            else if ac then (acGet t.seq (fRd w - 48)).extractLsb' (24 * (y - a)) 24 else daGet t.seq (fRd w))
        ∧ (∀ y, y ∈ t'.smem.dmemBad ↔ y ∈ t.smem.dmemBad ∧ (y < a ∨ a + n ≤ y))
        ∧ t'.smem.imem = t.smem.imem ∧ t'.smem.imemBad = t.smem.imemBad)

/-- R29, R177, R179 to R181: an access through a window stalls until WINDOW_ACCESS_COMPLETE, which waits while the network
holds the access, and else moves the word or words and goes on; where a word ends in an error it raises trap 0x0D with the
address and the status of that word in SEQ_FADDR and SEQ_FSTAT, and every register, data memory and, of a store, every bank
and DRAM as before. R177, R180, R181, R573, R582, R584: WINDOW_ACCESS_COMPLETE of an LD or ST completes where the network
delivers the access and nothing bars it: in the bank window the bank is not being wiped or cleared, the view reads, the owner
and the world permit, and the container has no uncorrectable error; in the DRAM window no bar of R573, R579, R645 and R649
holds and no word read has an uncorrectable error. D or A register r then holds the low 24 bits of the container or of the
four bytes, or the container or the bytes hold register r; the base register is updated and PC moves on. R177, R180, R181,
R549, R556, R560, R562, R585: a word of a window is container k of bank SEQ_PHWIN.BANK through the view that ALIAS selects,
with the sequencer, or the service core whose context it is, as the owner, or the DRAM word at BASE · 2^25 + 4k; the network
carries the access, past the probes on its way, and one that it bounces, or has no route for, gives that status and reaches
neither. -/
def Obligations.WindowsReachBankAndDram : Prop :=
  (
    ∀ (s t : State) (w : BitVec 40) (op : BitVec 8) (n : Nat) (store : Bool),
      let c : Instr := if op = 0x30 then .ld w else if op = 0x31 then .st w else if op = 0x32 then .ldac w else .stac w
      (op, n, store) ∈ [((0x30 : BitVec 8), 1, false), (0x31, 1, true), (0x32, 3, false), (0x33, 3, true)] →
      let a := t.seq.usedAddress w
      (s.Issues ((if store then [fRd w] else []) ++ (32 + fld w 30 4) :: if 3 ≤ fld w 27 3 then [32 + fld w 0 4] else []) t →
        (if n = 3 then isAC (fRd w) else isDA (fRd w)) = true → fld w 27 3 ≤ 4 → fld w 24 3 = 0 →
        (3 ≤ fld w 27 3 → fld w 4 20 = 0) →
        (0x100000 ≤ a ∧ a + n ≤ 0x140000 ∨ 0x800000 ≤ a ∧ a + n ≤ 0x1000000) →
        exec c s = .next (t.mapSeq (fun q => { q with wait := .window op.toNat w, loaded := none, tl := q.tl || q.locked })))
      ∧ (t.seq.wait = .window op.toNat w → (if n = 3 then isAC (fRd w) else isDA (fRd w)) = true →
        (0x100000 ≤ a ∧ a + n ≤ 0x140000 ∨ 0x800000 ≤ a ∧ a + n ≤ 0x1000000) →
        let r := t.mapSeq (fun q => { q with wait := .none })
        let ran (u : State) (regs : Option (Nat × Word)) (accs : Option (Nat × BitVec 72)) : Prop :=
          ∃ t', exec .windowAccessComplete t = .next t' ∧ { t' with seq := u.seq } = u ∧ r.seq.RegsOnly t'.seq
            ∧ r.seq.Moved t'.seq w regs accs ∧ t'.seq.cr = t.seq.cr ∧ t.seq.Retired t'.seq t.cycle 0
        let trapped (u : State) (e : Nat) (st : Status) : Prop :=
          exec .windowAccessComplete t = .next (({ u with seq := { r.seq with
            faddr := BitVec.ofNat 24 e, fstat := BitVec.ofNat 24 ((if store then 256 else 0) + st.code) } } : State).trap 0x0D)
        (t.windowHeld = true → exec .windowAccessComplete t = .next t)
        ∧ (t.windowHeld = false → store = false → ∀ st e vs u, r.loadWords a n = (st, e, vs, u) →
          (st = .ok → ran u (if n = 3 then none else some (fRd w, (vs[0]?).getD 0))
            (if n = 3 then some (fRd w - 48, (vs[2]?).getD 0 ++ (vs[1]?).getD 0 ++ (vs[0]?).getD 0) else none))
          ∧ (st ≠ .ok → trapped u e st))
        ∧ (t.windowHeld = false → store = true → ∀ st e u, r.storeWords a (if n = 3 then
            (List.range 3).map (fun i => (acGet t.seq (fRd w - 48)).extractLsb' (24 * i) 24) else [daGet t.seq (fRd w)]) =
              (st, e, u) →
          (st = .ok → ran u none none) ∧ (st ≠ .ok → trapped { u with smem := t.smem, mem := t.mem } e st))))
  ∧ (
    ∀ (s : State) (w : BitVec 40), isDA (fRd w) = true → s.windowHeld = false → s.routed = true →
      let q := s.seq
      let a := q.usedAddress w
      let b := fld q.phwin 0 6
      let k := a - 0x100000
      let d := q.drwin.toNat * 2 ^ 25 + 4 * (a - 0x800000)
      let code := if q.unit = 3 then 106 else 98 + q.unit
      let world := q.world || q.unit != 3
      let done (regs : Option (Nat × Word)) (t : State) : Prop := exec .windowAccessComplete s = .next t
        ∧ Seq.Moved { q with wait := .none } t.seq w regs none ∧ q.Retired t.seq s.cycle 0 ∧ t.seq.wait = .none
      (0x100000 ≤ a ∧ a < 0x140000 → s.bounced code (32 + b / 4) = none → s.sys.clears.any (fun e => e.1 == 0x1000 + b) = false →
        s.wiping b = false → fld q.phwin 6 2 ≠ 3 → (s.bankWorld b = true → world = true) →
        (q.wait = .window 0x30 w → s.bankAllows b q.unit world false = true → 262144 * b + k ∉ s.mem.phBad →
          ∃ t, done (some (fRd w, (s.cont b k).extractLsb' 0 24)) t)
        ∧ (q.wait = .window 0x31 w → s.bankAllows b q.unit world true = true → fld q.phwin 6 2 = 0 → s.noc.probes = [] →
          ∃ t, done none t ∧ ∀ b' k', k' < 262144 → t.cont b' k' =
            if b' = b ∧ k' = k then (daGet q (fRd w)).setWidth 32 else s.cont b' k'))
      ∧ (0x800000 ≤ a ∧ a < 0x1000000 → s.bounced code (dramNi d) = none → s.dramBarFor (q.unit != 3) world d 4 = none →
        (q.wait = .window 0x30 w → (∀ x ∈ s.mem.dramBad, 8 * x + 8 ≤ d ∨ d + 4 ≤ 8 * x) →
          ∃ t, done (some (fRd w, BitVec.ofNat 24 (leNat (s.dread d 4)))) t)
        ∧ (q.wait = .window 0x31 w → s.noc.probes = [] → ∃ t, done none t
          ∧ ∀ y, t.dbyte y = if d ≤ y ∧ y < d + 4 then BitVec.ofNat 8 ((daGet q (fRd w)).toNat / 2 ^ (8 * (y - d))) else s.dbyte y)))
  ∧ (
    ∀ (s : State) (k : Nat) (v : Word),
      let q := s.seq
      (∀ a st t, (a = 0x100000 + k ∧ k < 0x40000 ∨ a = 0x800000 + k ∧ k < 0x800000) →
        (s.windowLost (q.windowTransfer a false) = some (st, t) → s.loadWord a = (st, 0, t))
        ∧ (s.windowLost (q.windowTransfer a true) = some (st, t) → s.storeWord a v = (st, t)))
      ∧ (∀ x, s.routed = false → s.windowLost x = some (.routeFault, s))
      ∧ (∀ x st, s.routed = true → s.bounced x.src x.dst = some st →
          s.windowLost x = some (st, (s.noteReceipt x.src x.dst st).seenBack x st))
      ∧ (k < 0x40000 → (let x := q.windowTransfer (0x100000 + k) false
          s.windowLost x = none → let r := s.bankAccess q.unit q.ioWorld false (fld q.phwin 6 2) (fld q.phwin 0 6) k 0
          s.loadWord (0x100000 + k) = (r.1, r.2.1.extractLsb' 0 24, r.2.2.seen x r.1))
        ∧ (let x := q.windowTransfer (0x100000 + k) true
          s.windowLost x = none → let r := s.bankAccess q.unit q.ioWorld true (fld q.phwin 6 2) (fld q.phwin 0 6) k (v.setWidth 32)
          s.storeWord (0x100000 + k) v = (r.1, r.2.2.seen x r.1)))
      ∧ (k < 0x800000 → (let x := q.windowTransfer (0x800000 + k) false
          s.windowLost x = none → let r := s.dramGet q.isCore q.ioWorld (q.drwin.toNat * 2 ^ 25 + 4 * k) 4
          s.loadWord (0x800000 + k) = (r.1, BitVec.ofNat 24 (leNat r.2.1), r.2.2.seen x r.1))
        ∧ (let x := q.windowTransfer (0x800000 + k) true
          s.windowLost x = none → let r := s.dramPut q.isCore q.ioWorld (q.drwin.toNat * 2 ^ 25 + 4 * k) (leBytes 4 v.toNat)
          s.storeWord (0x800000 + k) v = (r.1, r.2.seen x r.1))))

/-- R222, R243, R264, R279: stores to SEQ_ISET, SEQ_TSTATE, the spill pointers and SEQ_RPTC by a privileged context. ISET
makes the software lines pending, of either world; TSTATE moves TW while a trap is open; a pointer waits while a record moves;
RPTC raises trap 0x0E. R113, R114, R225: a load of SEQ_CYCLO gives the low half of the count of array cycles since the
sequencer's registers were last reset (R220, R280) and latches the high half, of SEQ_PMLO the same for the postmark; a load of
SEQ_TALLY waits for every capture in flight and gives a non-secure context 0 for a secure count. -/
def Obligations.SystemRegistersStoreAndLoad : Prop :=
  (
    ∀ (s t : State) (v : Word) (k : Fin 3), s.Issues [] t → t.seq.priv = true →
      let next (f : Seq → Seq) : State := (t.mapSeq f).mapSeq (fun q => { q.advance with freeAt := t.cycle + 1, loaded := none })
      exec (.seqIsetWrite v) s = .next (next (fun q => { q with ipend := q.ipend ||| (v.extractLsb' 0 16 &&& 0xF000#16) }))
      ∧ exec (.seqTstateWrite v) s = .next (next (fun q => if q.depth = 0 then q else { q with tw := v.getLsbD 0 }))
      ∧ (t.seq.job = none ∧ t.seq.ptrWrites = [] → exec (.spillPointerWrite k v) s = .next (next (fun q =>
          if k = 0 then { q with spillBase := v.extractLsb' 0 19 } else if k = 1 then { q with spillLimit := v.extractLsb' 0 19 }
          else { q with spillPtr := v.extractLsb' 0 19 })))
      ∧ (t.seq.job.isSome = true → exec (.spillPointerWrite k v) s = .next (next (fun q =>
          { q with ptrWrites := q.ptrWrites ++ [(k, v.extractLsb' 0 19)] })))
      ∧ exec (.seqRptcWrite v) s = .next (t.trap 0x0E))
  ∧ (
    ∀ (s t : State) (r : BitVec 6), s.Issues [] t → isDA r.toNat = true →
      let next (u : State) (f : Seq → Seq) (v : Word) : State :=
        u.mapSeq (fun q => { (daSet (f q) r.toNat v).advance with freeAt := u.cycle + 1, loaded := some r })
      exec (.seqCycloLoad r) s = .next (next t (fun q => { q with cycHi := BitVec.ofNat 24 ((t.cycle - t.seq.cycBase) / 2 ^ 24) })
        (BitVec.ofNat 24 (t.cycle - t.seq.cycBase)))
      ∧ exec (.seqPmloLoad r) s = .next (next t (fun q => { q with pmHi := t.postmark.extractLsb' 24 24 })
          (t.postmark.extractLsb' 0 24))
      ∧ exec (.seqTallyLoad r) s = .next (let u := t.untilTally
          next u id (if u.red.countSecure && !u.seq.world then 0 else u.red.count.setWidth 24)))

/-- R239, R244, R245, R246: with one frame resident and no record moving, a store to SEQ_CTXSAVE writes the context record at
the address, in a locked section setting TIMING_LOST, and a store to SEQ_CTXLOAD sets the context from the record at the
address. That a word of the record costs a cycle is the model's choice (log entry 96). R245, R246: loading the context record
that a save wrote, with the same window and trap window current, gives every D register and every accumulator the value it
had, and SEQ_SPILLPTR, and leaves one resident frame. -/
def Obligations.ContextSavesAndLoads : Prop :=
  (
    ∀ (s t : State) (v : Word), s.Issues [] t → t.seq.priv = true → t.seq.world = true → t.seq.job = none →
      let a := fld v 0 19
      (t.seq.res = 1 → a + 58 ≤ 2 ^ 18 → ∃ t', exec (.seqCtxsaveWrite v) s = .next t'
        ∧ { t' with seq := t.seq, smem := t.smem } = t ∧ t.seq.RegsOnly { t'.seq with tl := t.seq.tl } ∧ t.seq.WroteNone t'.seq
        ∧ t'.seq.tl = (t.seq.tl || t.seq.locked)
        ∧ (∀ y < 2 ^ 18, t'.smem.word y = if a ≤ y ∧ y < a + t.seq.context.length then (t.seq.context[y - a]?).getD 0
            else t.smem.word y)
        ∧ t'.smem.imem = t.smem.imem ∧ t'.seq.pc = t.seq.nextPc ∧ t'.seq.freeAt = t.cycle + 1 + t.seq.context.length
        ∧ t'.seq.dataAt = t'.seq.freeAt)
      ∧ (let x (i : Nat) : Word := t.smem.word (a + i)
         let n := 2 + 4 * popcount ((x 0).extractLsb' 0 8) + 3 * popcount ((x 0).extractLsb' 8 8)
         a + 58 ≤ 2 ^ 18 → t.smem.dmemBad = [] → fld (x 0) 16 8 = 0 →
         exec (.seqCtxloadWrite v) s = .next (t.mapSeq (fun q => { (q.loadContext x).advance with
          freeAt := t.cycle + 1 + n, dataAt := t.cycle + 1 + n, loaded := none }))))
  ∧ (
    ∀ (q q' : Seq), q'.top = q.top → q'.tw = q.tw →
      let r := q'.loadContext (fun i => (q.context[i]?).getD 0)
      (∀ k < 32, dGet r k = dGet q k) ∧ (∀ n < 8, acGet r n = acGet q n) ∧ r.spillPtr = q.spillPtr ∧ r.res = 1
        ∧ (∀ k, aGet r k = aGet q' k))

/-- R186, R321, R335 to R337: the two formats of FADD, FSUB, FMUL, FMA, FDIV and FSQRT write the result of their operation,
rounded under RM, and take the cycles of R335; every exception raised sets its SFLAG bit, and the lowest enabled one traps and
writes no accumulator. `e.2.1` is the format, then the operation and the cycles. -/
def Obligations.ScalarFloatWritesResult : Prop :=
  ∀ e ∈ ([(.fadd_32, f32, 0, 3), (.fadd_64, f64, 0, 4), (.fsub_32, f32, 1, 3), (.fsub_64, f64, 1, 4), (.fmul_32, f32, 2, 4),
      (.fmul_64, f64, 2, 5), (.fma_32, f32, 3, 5), (.fma_64, f64, 3, 6), (.fdiv_32, f32, 4, 12), (.fdiv_64, f64, 4, 20),
      (.fsqrt_32, f32, 5, 14), (.fsqrt_64, f64, 5, 24)] : List ((BitVec 40 → Instr) × Fmt × Nat × Nat)),
  ∀ (s t : State) (w : BitVec 40), s.Issues (fRs1 w :: ((if e.2.2.1 = 5 then [] else [fRs2 w])
      ++ (if e.2.2.1 = 3 then [fRs3 w] else []))) t →
    legalRRR isAC isAC (if e.2.2.1 = 5 then unused else isAC) (if e.2.2.1 = 3 then isAC else unused) w = true →
    let x (r : Nat) : Nat := (acGet t.seq (r - 48)).toNat % 2 ^ (1 + e.2.1.eb + e.2.1.mb)
    let r := fpOp e.2.1 (fld t.seq.fpcsr 0 2) e.2.2.1 (x (fRs1 w)) (x (fRs2 w)) (x (fRs3 w))
    let u := t.mapSeq (fun q => { q with fpcsr := q.fpcsr ||| (r.flags.setWidth 22 <<< 2) })
    (r.flags &&& t.seq.fpcsr.extractLsb' 7 5 = 0 →
      ∃ t', exec (e.1 w) s = .next t' ∧ u.SeqOnly t' ∧ u.seq.RegsOnly t'.seq
        ∧ u.seq.WroteAc t'.seq (fRd w - 48) (BitVec.ofNat 72 r.bits) ∧ u.seq.Retired t'.seq t.cycle e.2.2.2
        ∧ t'.seq.cr = t.seq.cr)
    ∧ (∀ i < 5, (r.flags &&& t.seq.fpcsr.extractLsb' 7 5).getLsbD i = true →
      (∀ j < i, (r.flags &&& t.seq.fpcsr.extractLsb' 7 5).getLsbD j = false) → exec (e.1 w) s = .next (u.trap (6 + i)))

/-- R182, R330, R337: FCMP compares without a flag but NV for a signalling NaN, sets N, Z, C and V by the outcome and writes
no register; with NV enabled it traps and leaves the flags. R187, R331, R332: FCVT converts between a D or A register and an
accumulator, or between the formats, as imm[3:0] selects, in 2 cycles. -/
def Obligations.FloatComparesAndConverts : Prop :=
  (
    ∀ (s t : State) (w : BitVec 40) (double : Bool), s.Issues [fRs1 w, fRs2 w] t → legalRRR unused isAC isAC unused w = true →
      let f := if double then f64 else f32
      let v (r : Nat) : Fv := unpack f ((acGet t.seq (r - 48)).toNat % 2 ^ (if double then 64 else 32))
      let nv : Bool := isSnan (v (fRs1 w)) || isSnan (v (fRs2 w))
      let u := if nv then t.mapSeq (fun q => { q with fpcsr := q.fpcsr ||| 4 }) else t
      ((nv && t.seq.fpcsr.getLsbD 7) = false →
        ∃ t', exec (if double then .fcmp_64 w else .fcmp_32 w) s = .next t' ∧ u.SeqOnly t' ∧ u.seq.RegsOnly t'.seq
          ∧ u.seq.WroteNone t'.seq ∧ u.seq.Retired t'.seq t.cycle 1
          ∧ t'.seq.cr = (match cmpFv (v (fRs1 w)) (v (fRs2 w)) with
            | .less => mkCr (crD t.seq.cr) true false false false
            | .equal => mkCr (crD t.seq.cr) false true true false
            | .greater => mkCr (crD t.seq.cr) false false true false
            | .unordered => mkCr (crD t.seq.cr) false false false true))
      ∧ ((nv && t.seq.fpcsr.getLsbD 7) = true → exec (if double then .fcmp_64 w else .fcmp_32 w) s = .next (u.trap 6)))
  ∧ (
    ∀ (s t : State) (w : BitVec 40), s.Issues [fRs1 w] t → fld w 4 20 = 0 →
      let k := fld w 0 4
      let rm := fld t.seq.fpcsr 0 2
      let i := daGet t.seq (fRs1 w)
      let a (f : Fmt) : Fv := unpack f ((acGet t.seq (fRs1 w - 48)).toNat % 2 ^ (1 + f.eb + f.mb))
      ∀ r : Fr, (k, r) ∈ [(0, fromInt f32 rm i.toInt), (1, fromInt f32 rm i.toNat), (2, fromInt f64 rm i.toInt),
          (3, fromInt f64 rm i.toNat), (4, toIntFv rm true 24 (a f32)), (5, toIntFv rm false 24 (a f32)),
          (6, toIntFv rm true 24 (a f64)), (7, toIntFv rm false 24 (a f64)), (8, convFv f64 rm (a f32)),
          (9, convFv f32 rm (a f64))] →
      (if k ≤ 3 then isDA (fRs1 w) else isAC (fRs1 w)) = true →
      (if 4 ≤ k ∧ k ≤ 7 then isDA (fRd w) else isAC (fRd w)) = true →
      r.flags &&& t.seq.fpcsr.extractLsb' 7 5 = 0 →
      let u := t.mapSeq (fun q => { q with fpcsr := q.fpcsr ||| (r.flags.setWidth 22 <<< 2) })
      ∃ t', exec (.fcvt w) s = .next t' ∧ u.SeqOnly t' ∧ u.seq.RegsOnly t'.seq
        ∧ (if 4 ≤ k ∧ k ≤ 7 then u.seq.Wrote t'.seq (fRd w) (BitVec.ofNat 24 r.bits)
            else u.seq.WroteAc t'.seq (fRd w - 48) (BitVec.ofNat 72 r.bits))
        ∧ u.seq.Retired t'.seq t.cycle 2 ∧ t'.seq.cr = t.seq.cr)

/-- R323 to R326 in both formats and every rounding mode: NaN operands and invalid operations give the canonical NaN, a
division by zero an infinity with DZ, and an exact zero difference +0, or −0 when rounding downward. R322, R329: a finite
value that a format holds, subnormal or normal, rounds to its own encoding in every mode with no flag. R321 and the directions
of R327 to R329: one rounding of a non-zero value ±m · 2^e that does not overflow gives a value that the format holds; toward
zero never larger in magnitude, and exact exactly when it raises no NX. -/
def Obligations.FloatRoundsAndMeetsEdges : Prop :=
  (
    ∀ f ∈ [f32, f64], ∀ (rm k a b c : Nat), rm < 4 → k < 6 →
      let x := unpack f a
      let y := unpack f b
      let z := unpack f c
      let r := fpOp f rm k a b c
      ((isNan x ∨ k ≠ 5 ∧ isNan y ∨ k = 3 ∧ isNan z) → r.bits = qnan f)
      ∧ ((isSnan x ∨ k ≠ 5 ∧ isSnan y ∨ k = 3 ∧ isSnan z) → r = ⟨qnan f, fNV⟩)
      ∧ (k = 4 → isZero x = true → isZero y = true → r = ⟨qnan f, fNV⟩)
      ∧ (k = 2 → isZero x = true → isInf y = true → r = ⟨qnan f, fNV⟩)
      ∧ (k = 1 → isInf x = true → x = y → r = ⟨qnan f, fNV⟩)
      ∧ (k = 5 → isNan x = false → isZero x = false → negOfFv x = true → r = ⟨qnan f, fNV⟩)
      ∧ (k = 4 → isNan x = false → isInf x = false → isZero x = false → isZero y = true →
          r = ⟨infBits f (negOfFv x != negOfFv y), fDZ⟩)
      ∧ (k = 1 → isNan x = false → isInf x = false → x = y → r = ⟨zeroBits f (rm == 3), 0⟩))
  ∧ (
    ∀ f ∈ [f32, f64], ∀ (rm x : Nat), rm < 4 → x < 2 ^ (1 + f.eb + f.mb) →
      ∀ (neg : Bool) (m : Nat) (e : Int), unpack f x = .fin neg m e → packFin f rm neg m e = ⟨x, 0⟩)
  ∧ (
    ∀ f ∈ [f32, f64], ∀ (neg : Bool) (m : Nat) (e : Int), 0 < m →
      let r := roundPack f 1 neg m e false
      r.flags.getLsbD 2 = false →
      ∃ k l, unpack f r.bits = .fin neg k l ∧ r.bits < 2 ^ (1 + f.eb + f.mb)
        ∧ (∀ d : Nat, (d : Int) = l - e → k * 2 ^ d ≤ m ∧ m < (k + 1) * 2 ^ d ∧ (r.flags.getLsbD 4 = false ↔ k * 2 ^ d = m))
        ∧ (∀ d : Nat, (d : Int) = e - l → k = m * 2 ^ d ∧ r.flags = 0))

/-- R183, R188, R189: B jumps to its target when its condition holds, two cycles later, and else goes on; CALL and CALLR put
PC + 1 in D31; CALLR and JMP jump to s, RET to D15, RETL to D31. Nothing else changes. -/
def Obligations.BranchesAndCalls : Prop :=
  ∀ (s t : State) (w : BitVec 40),
    let jump (u : State) (a : BitVec 18) : State := u.mapSeq (fun q => { q with pc := a, freeAt := t.cycle + 2, loaded := none })
    let n := crN t.seq.cr
    let z := crZ t.seq.cr
    let c := crC t.seq.cr
    let v := crV t.seq.cr
    let gor := t.gorAt t.cycle t.seq.world
    let conds : List Bool := [true, z, !z, c, !c, n, !n, v, !v, c && !z, !c || z, n == v, n != v, !z && n == v, z || n != v,
      crD t.seq.cr, gor, !gor]
    (s.Issues [] t → fld w 18 17 = 0 → ∀ b, conds[fCond w]? = some b →
      exec (.b w) s = .next (if b then jump t (w.extractLsb' 0 18)
        else t.mapSeq (fun q => { q.advance with freeAt := t.cycle + 1, loaded := none })))
    ∧ (s.Issues [] t → fld w 18 22 = 0 → exec (.call w) s =
        .next (jump (t.mapSeq (fun q => dSet q 31 ((q.pc + 1).setWidth 24))) (w.extractLsb' 0 18)))
    ∧ (s.Issues [fRs1 w] t → legalRRR unused isDA unused unused w = true →
      exec (.callr w) s = .next (jump (t.mapSeq (fun q => dSet q 31 ((q.pc + 1).setWidth 24)))
        ((daGet t.seq (fRs1 w)).extractLsb' 0 18))
      ∧ exec (.jmp w) s = .next (jump t ((daGet t.seq (fRs1 w)).extractLsb' 0 18)))
    ∧ (s.Issues [15] t → legalRRR unused unused unused unused w = true →
      exec (.ret w) s = .next (jump t ((dGet t.seq 15).extractLsb' 0 18)))
    ∧ (s.Issues [31] t → legalRRR unused unused unused unused w = true →
      exec (.retl w) s = .next (jump t ((dGet t.seq 31).extractLsb' 0 18)))

/-- R227, R229, R234: with a frame's room, SAVE makes the caller's outs the new frame's ins and leaves its locals and outs
clean; with the caller resident, RESTORE makes the popped frame's ins the caller's outs. Neither moves a register value. R230,
R231, R240, R241, R261: a SAVE with 11 frames and a RESTORE with one wait for the spiller, unless the stack is full or empty
or the record is barred, which trap; in the trap window both halt. R228, R230, R237, R239, R255, R270: with a frame's room, or
once the record has moved, the stalled SAVE or RESTORE executes, unless an interrupt is due first, which is taken; SPILL and
FILL are the move. A move ends when no record is in progress, and a fill that would leave fewer free windows than SPILLAT is
not made. -/
def Obligations.SaveAndRestoreMoveWindow : Prop :=
  (
    ∀ (s t : State) (w : BitVec 40), s.Issues [] t → legalRRR unused unused unused unused w = true → t.seq.tw = false →
      (t.seq.res ≤ 10 → ∃ t', exec (.save w) s = .next t' ∧ t.SeqOnly t' ∧ t.seq.Retired t'.seq t.cycle 1
        ∧ { t'.seq with dDirty := t.seq.dDirty, top := t.seq.top, res := t.seq.res, frameWorlds := t.seq.frameWorlds,
                        pc := t.seq.pc, rptc := t.seq.rptc, freeAt := t.seq.freeAt, loaded := t.seq.loaded } = t.seq
        ∧ t'.seq.top = t.seq.top + 1 ∧ t'.seq.res = t.seq.res + 1 ∧ t'.seq.frameWorlds = t.seq.world :: t.seq.frameWorlds
        ∧ (∀ i < 8, dGet t'.seq i = dGet t.seq i) ∧ (∀ i < 8, dGet t'.seq (8 + i) = dGet t.seq (24 + i))
        ∧ (∀ i < 16, dGet t'.seq (16 + i) = 0))
      ∧ (2 ≤ t.seq.res → ∃ t', exec (.restore w) s = .next t' ∧ t.SeqOnly t' ∧ t.seq.Retired t'.seq t.cycle 1
        ∧ { t'.seq with top := t.seq.top, res := t.seq.res, frameWorlds := t.seq.frameWorlds,
                        pc := t.seq.pc, rptc := t.seq.rptc, freeAt := t.seq.freeAt, loaded := t.seq.loaded } = t.seq
        ∧ t'.seq.top = t.seq.top + 11 ∧ t'.seq.res = t.seq.res - 1 ∧ t'.seq.frameWorlds = t.seq.frameWorlds.drop 1
        ∧ (∀ i < 8, dGet t'.seq i = dGet t.seq i) ∧ (∀ i < 8, dGet t'.seq (24 + i) = dGet t.seq (8 + i))))
  ∧ (
    ∀ (s t : State) (w : BitVec 40), s.Issues [] t → legalRRR unused unused unused unused w = true →
      let wait (x : Wait) : State := t.mapSeq (fun q => { q with wait := x, tl := q.tl || q.locked, loaded := none })
      (t.seq.tw = true → exec (.save w) s = .next (t.haltFault 5 t.seq.pc) ∧ exec (.restore w) s = .next (t.haltFault 5 t.seq.pc))
      ∧ (t.seq.tw = false → t.seq.res = 11 → t.seq.job = none →
        exec (.save w) s = .next (if t.seq.spillBarred then t.trap 2
          else if t.seq.spillLimit.toNat < t.seq.spillPtr.toNat + t.seq.recLen then t.trap 3 else wait .save))
      ∧ (t.seq.tw = false → t.seq.res = 1 → t.seq.job = none →
        exec (.restore w) s = .next (if t.seq.spillPtr.toNat ≤ t.seq.spillBase.toNat then t.trap 4 else wait .restore)))
  ∧ (
    ∀ s : State, s.running = true →
      let saved (u : State) : State := (u.mapSeq (fun q => { q with wait := .none })).mapSeq (fun q => { q.pushFrame.advance with
        freeAt := u.cycle + 1, loaded := none })
      let restored (u : State) : State := u.mapSeq (fun q => { q with
        wait := .none, pc := u.seq.nextPc, rptc := (if u.seq.rptc = 0 then 0 else u.seq.rptc - 1), top := q.top + 11,
        res := q.res - 1, frameWorlds := q.frameWorlds.drop 1, freeAt := u.cycle + 1, loaded := none })
      let u := s.untilMovedOrDue
      (s.interruptDue = none → s.seq.wait = .save → s.seq.res ≤ 10 → exec .stalledSaveExecute s = .next (saved s))
      ∧ (s.interruptDue = none → s.seq.wait = .restore → 2 ≤ s.seq.res → exec .stalledRestoreExecute s = .next (restored s))
      ∧ (s.seq.wait = .save → 11 ≤ s.seq.res → u.interruptDue = none → u.seq.res ≤ 10 → exec .stalledSaveExecute s = .next (saved u))
      ∧ (s.seq.wait = .restore → s.seq.res ≤ 1 → u.interruptDue = none → 2 ≤ u.seq.res →
        exec .stalledRestoreExecute s = .next (restored u))
      ∧ (∀ l c0, s.seq.wait = .save → 11 ≤ s.seq.res → u.interruptDue = some (l, c0) →
        exec .stalledSaveExecute s = .next (u.takeInterrupt l c0))
      ∧ (∀ l c0, s.seq.wait = .restore → s.seq.res ≤ 1 → u.interruptDue = some (l, c0) →
        exec .stalledRestoreExecute s = .next (u.takeInterrupt l c0))
      ∧ (s.seq.job = some ⟨false, s.seq.recLen⟩ → exec .spill s = .next s.untilMoved)
      ∧ (s.seq.job = some ⟨true, s.seq.recLen⟩ → exec .fill s = .next s.untilMoved)
      ∧ (∀ fill, s.seq.job = some ⟨fill, 1⟩ → s.seq.dataAt ≤ s.cycle → s.seq.ptrWrites = [] → (fill = false → 2 ≤ s.seq.res) →
        (fill = true → s.seq.spillBase.toNat < s.seq.spillPtr.toNat ∧ s.seq.res ≤ 10 ∧ fld s.seq.wctl 0 4 + s.seq.res ≤ 10) →
        s.spiller = (if fill then s.fillFrame else s.spillFrame).mapSeq (fun q => { q with job := none }))
      ∧ (s.seq.job = some ⟨true, 1⟩ → s.seq.dataAt ≤ s.cycle → s.seq.ptrWrites = [] → 10 < fld s.seq.wctl 0 4 + s.seq.res →
        s.spiller = s.mapSeq (fun q => { q with job := none })))

/-- R236, R238, R241: a spill followed by a fill gives every physical register, the spill pointer, the resident count and the
worlds of the frames their values, for every frame but the one whose record would pass the end of data memory. -/
def Obligations.FillUndoesSpill : Prop :=
  ∀ s : State, 2 ≤ s.seq.res → s.seq.res ≤ 11 → s.seq.spillPtr.toNat + s.seq.recLen ≤ 2 ^ 18 →
    let t := s.spillFrame.fillFrame
    (∀ p < 216, physGet t.seq p = physGet s.seq p) ∧ t.seq.spillPtr = s.seq.spillPtr ∧ t.seq.res = s.seq.res
      ∧ t.seq.dDirty = s.seq.dDirty ∧ t.seq.top = s.seq.top ∧ (s.seq.frameWorlds ≠ [] → t.seq.frameWorlds = s.seq.frameWorlds)

/-- R247, R248, R250: REP and REPR latch a count; a count of 0 skips the next instruction; R251: an opcode that may not repeat
traps 0x0E. R206, R207, R209, R190: LOCK and UNLOCK set and clear LOCKED and trap 0x01 where it has that value already, and
LOCK sets TIMING_LOST where the array clock is stretched (R30, R538); WAITB waits, and completes in the first array cycle of a
beat unless deadtime holds it (R527). R192, R191: HALT waits for the macro, stops issue and sends the halt event; CHKPT
records PC + 1 and its tag as the restart point. -/
def Obligations.RepeatsLocksAndWaits : Prop :=
  (
    ∀ (s t : State) (w : BitVec 40) (r : Bool), s.Issues (if r then [fRs1 w] else []) t →
      (if r then legalRRR unused isD unused unused w else legalRRI unused unused w) = true →
      let n := if r then dGet t.seq (fRs1 w) else w.extractLsb' 0 24
      let op := fld (sget 0 t.smem.imem (t.seq.pc + 1).toNat) 40 8
      exec (if r then .repr w else .rep w) s = .next (if 0x60 ≤ op ∧ op ≤ 0x71 then t.trap 0x0E
        else t.mapSeq (fun q => { q with rptc := n, pc := if n = 0 then q.pc + 2 else q.pc + 1, freeAt := t.cycle + 1,
                                         loaded := none })))
  ∧ (
    (∀ (s t : State) (w : BitVec 40) (b : Bool), s.Issues [] t → legalRRR unused unused unused unused w = true →
      exec (if b then .lock w else .unlock w) s = .next (if t.seq.locked = b then t.trap 1
        else t.mapSeq (fun q => { q.advance with locked := b, tl := q.tl || (b && t.stretching), freeAt := t.cycle + 1, loaded := none })))
    ∧ (∀ (s t : State) (w : BitVec 40), s.Issues [] t → legalRRR unused unused unused unused w = true →
      exec (.waitb w) s = .next (t.mapSeq (fun q => { q with wait := .beat, loaded := none })).tick)
    ∧ (∀ s : State, s.running = true → s.interruptDue = none → s.seq.wait = .beat → s.seq.bphase = 0 → s.seq.frkst.getLsbD 20 = false →
      exec .waitbComplete s = .next (s.mapSeq (fun q => { q.advance with wait := .none, freeAt := s.cycle, loaded := none }))))
  ∧ (
    ∀ (s t : State) (w : BitVec 40), s.Issues [] t →
      (legalRRR unused unused unused unused w = true → t.seq.priv = true → t.untilFree.running = true →
        exec (.halt w) s = .next ((t.untilFree.mapSeq (fun q => { q with halted := true })).event 0x05 0 .ok 0))
      ∧ (legalRRI unused unused w = true → ∃ t', exec (.chkpt w) s = .next t'
        ∧ { t' with seq := t.seq, sys := t.sys } = t ∧ { t'.sys with checkpoint := t.sys.checkpoint, faulted := t.sys.faulted } = t.sys
        ∧ t'.sys.checkpoint = some (t.seq.pc + 1, w.extractLsb' 0 24, t.seq.world, t.seq.priv) ∧ t.seq.RegsOnly t'.seq
        ∧ t.seq.WroteNone t'.seq ∧ t'.seq.cr = t.seq.cr ∧ t.seq.Retired t'.seq t.cycle 1))

/-- R213, R242: SCALL by a non-secure context through a valid gate enters it secure and privileged, four cycles on; SRET with
the same top frame returns. A closed gate, a secure caller, no gate open or another frame traps 0x02. -/
def Obligations.GatesCallAndReturn : Prop :=
  ∀ (s t : State) (w : BitVec 40), s.Issues [] t →
    let u := t.ticks 3
    (legalRRI unused unused w = true → fld w 4 20 = 0 →
      let g := sget 0 t.seq.gates (fld w 0 4)
      (t.seq.world = false → g.getLsbD 23 = true → ∃ t', exec (.scall w) s = .next t' ∧ u.SeqOnly t'
        ∧ t'.seq = { u.seq with gate := some ⟨u.seq.pc + 1, u.seq.priv, u.seq.world, u.seq.top⟩, world := true, priv := true,
                                pc := (sget 0 u.seq.gates (fld w 0 4)).extractLsb' 0 18, freeAt := u.cycle, loaded := none })
      ∧ ((t.seq.world = true ∨ g.getLsbD 23 = false) → exec (.scall w) s = .next (t.trap 2)))
    ∧ (legalRRR unused unused unused unused w = true →
      (∀ g, t.seq.gate = some g → t.seq.world = true → g.top = t.seq.top → u.seq.gate = some g →
        ∃ t', exec (.sret w) s = .next t' ∧ u.SeqOnly t'
          ∧ t'.seq = { u.seq with gate := none, world := g.world, priv := g.priv, pc := g.ret, freeAt := u.cycle, loaded := none })
      ∧ ((t.seq.world = false ∨ ∀ g, t.seq.gate = some g → g.top ≠ t.seq.top) → exec (.sret w) s = .next (t.trap 2)))

/-- R257 to R260: a synchronous trap below depth 15 outside the trap window saves PC twice, the state, the cause, the repeat
count, SEQ_CR and SEQ_BPHASE in D8 to D14 of the trap window, and goes on privileged, unlocked and with interrupts off at the
cause's slot of its world's table, three cycles on; the registers of the ring, the globals and the accumulators stay. R261: a
trap in the trap window, or an entry at depth 15, halts: issue stops, SEQ_HCAUSE records the cause and PC, and the fault
manager hears of it. -/
def Obligations.TrapEntrySavesState : Prop :=
  (
    ∀ (t : State) (c : Nat), t.seq.tw = false → t.seq.depth < 15 → 1 ≤ c → c < 16 → t.seq.ilvl < 32 →
      let q := t.seq
      let q' := (t.trap c).seq
      t.SeqOnly (t.trap c) ∧ dGet q' 8 = q.pc.setWidth 24 ∧ dGet q' 9 = q.pc.setWidth 24
        ∧ (dGet q' 10).toNat = 4 * q.world.toNat + 8 * q.priv.toNat + 16 * q.ie.toNat + 32 * q.locked.toNat + 512 * q.ilvl
        ∧ fld (dGet q' 11) 0 5 = c ∧ dGet q' 12 = q.rptc ∧ dGet q' 13 = q.cr.setWidth 24 ∧ dGet q' 14 = BitVec.ofNat 24 q.bphase
        ∧ q'.tw = true ∧ q'.depth = q.depth + 1 ∧ q'.priv = true ∧ q'.ie = false ∧ q'.locked = false ∧ q'.rptc = 0
        ∧ q'.world = q.world ∧ q'.ilvl = q.ilvl ∧ q'.freeAt = t.cycle + 3
        ∧ q'.pc = BitVec.ofNat 18 (256 * (if q.world then q.tvbaseS else q.tvbase).toNat + 8 * c)
        ∧ (∀ p < 200, physGet q' p = physGet q p) ∧ (∀ r, aGet q' r = aGet q r) ∧ (∀ n, acGet q' n = acGet q n))
  ∧ (
    ∀ (t : State) (c : Nat), c < 32 → (t.seq.tw = true ∨ t.seq.depth = 15) →
      let u := t.trap c
      u.seq = { t.seq with stopped := true, halted := true, wait := .none, hcause := BitVec.ofNat 24 (2 ^ 23 + c * 2 ^ 18 + t.seq.pc.toNat) }
        ∧ u.sys.faults = t.sys.faults ++ [.sequencer c (c = 0x0C)] ∧ u.smem = t.smem ∧ u.arr = t.arr ∧ u.cv = t.cv
        ∧ u.out.fault = true ∧ u.running = false)

/-- R158 to R160, R165, R166, R171, R174, R185 to R187: each scalar instruction whose operand registers are of a class that
its row does not accept, or whose unused fields or immediate are outside what its row allows, raises trap 0x01, and so does
ILLEGAL_INSTRUCTION for every opcode that no table lists. R176: an access to an address that R175 reserves raises trap 0x0D
with SEQ_FADDR and SEQ_FSTAT recorded; a non-secure access at or above DSECBASE raises trap 0x02 (R212). R263 and the
privilege column of R188: RTT with TW 0 traps 0x01; RTT and HALT of an unprivileged context trap 0x02. R46, R47, R52, R165,
R198 to R203, R345, R743: each array macro with a bit set that its format and row leave unused, or with a condition, a
conversion, a planes span, a register or a side outside its row, traps 0x01; else one with a field that leaves the user area,
or whose first two sources lie in one bank, or whose stencil has no such offset, traps 0x0D; each before any word. -/
def Obligations.IllegalInstructionsTrap : Prop :=
  (
    let traps (c : Instr) (srcs : List Nat) : Prop := ∀ s t : State, s.Issues srcs t → exec c s = .next (t.trap 1)
    let da (r : Nat) : Bool := r < 48
    let ac (r : Nat) : Bool := 48 ≤ r && r < 56
    let dd (r : Nat) : Bool := r < 32
    let ev (r : Nat) : Bool := r < 32 && r % 2 == 0
    let no (r : Nat) : Bool := r == 0
    let m : Nat := 2 ^ 24 - 1
    (∀ e ∈ ([(.mov, da, da, no, no, 1), (.not_, da, da, no, no, 1), (.neg, da, da, no, no, 1), (.abs, da, da, no, no, 1),
        (.add, da, da, da, no, 2), (.sub, da, da, da, no, 2), (.adc, da, da, da, no, 2), (.sbc, da, da, da, no, 2),
        (.and_, da, da, da, no, 2), (.or_, da, da, da, no, 2), (.xor, da, da, da, no, 2), (.shl, da, da, da, no, 2),
        (.shr, da, da, da, no, 2), (.sar, da, da, da, no, 2), (.sal, da, da, da, no, 2), (.rol, da, da, da, no, 2),
        (.ror, da, da, da, no, 2), (.mull, da, da, da, no, 2), (.cmp, no, da, da, no, 2), (.mulu, ac, da, da, no, 2),
        (.muls, ac, da, da, no, 2), (.divu, ev, da, da, no, 2), (.divs, ev, da, da, no, 2), (.fadd_32, ac, ac, ac, no, 2),
        (.fadd_64, ac, ac, ac, no, 2), (.fsub_32, ac, ac, ac, no, 2), (.fsub_64, ac, ac, ac, no, 2),
        (.fmul_32, ac, ac, ac, no, 2), (.fmul_64, ac, ac, ac, no, 2), (.fdiv_32, ac, ac, ac, no, 2),
        (.fdiv_64, ac, ac, ac, no, 2), (.fma_32, ac, ac, ac, ac, 3), (.fma_64, ac, ac, ac, ac, 3),
        (.fsqrt_32, ac, ac, no, no, 1), (.fsqrt_64, ac, ac, no, no, 1), (.fcmp_32, no, ac, ac, no, 2),
        (.fcmp_64, no, ac, ac, no, 2), (.callr, no, da, no, no, 1), (.jmp, no, da, no, no, 1), (.repr, no, dd, no, no, 1)] :
        List ((BitVec 40 → Instr) × (Nat → Bool) × (Nat → Bool) × (Nat → Bool) × (Nat → Bool) × Nat)),
      ∀ w : BitVec 40, (e.2.1 (fld w 34 6) && e.2.2.1 (fld w 28 6) && e.2.2.2.1 (fld w 22 6) && e.2.2.2.2.1 (fld w 16 6)
          && fld w 0 16 == 0) = false → traps (e.1 w) ([fld w 28 6, fld w 22 6, fld w 16 6].take e.2.2.2.2.2))
    ∧ (∀ e ∈ ([(.nop, no, []), (.ret, no, [15]), (.retl, no, [31]), (.save, no, []), (.restore, no, []), (.waitb, no, []),
        (.lock, no, []), (.unlock, no, []), (.sret, no, []), (.rtt, no, []), (.halt, no, []), (.acclr, ac, [])] :
        List ((BitVec 40 → Instr) × (Nat → Bool) × List Nat)),
      ∀ w : BitVec 40, (e.2.1 (fld w 34 6) = false ∨ fld w 0 34 ≠ 0) → traps (e.1 w) e.2.2)
    ∧ (∀ e ∈ [((.macu : BitVec 40 → Instr)), .macs], ∀ w : BitVec 40, (ac (fld w 34 6) && da (fld w 28 6) && da (fld w 22 6)
        && fld w 0 22 == 0) = false → traps (e w) [fld w 28 6, fld w 22 6, fld w 34 6])
    ∧ (∀ e ∈ ([(.movi, da, no, m, 0), (.addi, da, da, m, 1), (.subi, da, da, m, 1), (.andi, da, da, m, 1), (.ori, da, da, m, 1),
        (.xori, da, da, m, 1), (.shli, da, da, m, 1), (.shri, da, da, m, 1), (.sari, da, da, m, 1), (.sali, da, da, m, 1),
        (.roli, da, da, m, 1), (.rori, da, da, m, 1), (.cmpi, no, da, m, 1), (.rep, no, no, m, 0), (.scall, no, no, 15, 0),
        (.chkpt, no, no, m, 0), (.acrd, da, ac, 2, 1), (.acwr, ac, da, 2, 2)] :
        List ((BitVec 40 → Instr) × (Nat → Bool) × (Nat → Bool) × Nat × Nat)),
      ∀ w : BitVec 40, ((e.2.1 (fld w 34 6) && e.2.2.1 (fld w 28 6) && fld w 24 4 == 0) = false ∨ e.2.2.2.1 < fld w 0 24) →
        traps (e.1 w) ([fld w 28 6, fld w 34 6].take e.2.2.2.2))
    ∧ (∀ e ∈ ([(.ld, da, false), (.st, da, true), (.ldac, ac, false), (.stac, ac, true)] :
        List ((BitVec 40 → Instr) × (Nat → Bool) × Bool)),
      ∀ w : BitVec 40, (e.2.1 (fld w 34 6) = false ∨ 4 < fld w 27 3 ∨ fld w 24 3 ≠ 0 ∨ 3 ≤ fld w 27 3 ∧ fld w 4 20 ≠ 0) →
        traps (e.1 w) ((if e.2.2 then [fld w 34 6] else []) ++ (32 + fld w 30 4) :: if 3 ≤ fld w 27 3 then [32 + fld w 0 4] else []))
    ∧ (∀ w : BitVec 40, (17 < fld w 35 5 ∨ fld w 18 17 ≠ 0 → traps (.b w) []) ∧ (fld w 18 22 ≠ 0 → traps (.call w) [])
        ∧ ((fld w 4 20 ≠ 0 ∨ 9 < fld w 0 4 ∨ fld w 24 4 ≠ 0
            ∨ (if 4 ≤ fld w 0 4 ∧ fld w 0 4 ≤ 7 then da (fld w 34 6) else ac (fld w 34 6)) = false
            ∨ (if fld w 0 4 ≤ 3 then da (fld w 28 6) else ac (fld w 28 6)) = false) → traps (.fcvt w) [fld w 28 6]))
    ∧ ∀ i : BitVec 48, (let op := fld i 40 8
        ¬(op ≤ 0x29 ∨ 0x30 ≤ op ∧ op ≤ 0x33 ∨ 0x40 ≤ op ∧ op ≤ 0x46 ∨ 0x48 ≤ op ∧ op ≤ 0x4F ∨ 0x60 ≤ op ∧ op ≤ 0x71
          ∨ 0x80 ≤ op ∧ op ≤ 0x94 ∨ 0xA0 ≤ op ∧ op ≤ 0xA6 ∨ 0xA8 ≤ op ∧ op ≤ 0xB2 ∨ 0xB8 ≤ op ∧ op ≤ 0xC6)) →
        traps (.illegalInstruction i) [])
  ∧ (
    ∀ (s t : State) (w : BitVec 40) (store : Bool),
      let a := t.seq.usedAddress w
      s.Issues ((if store then [fRd w] else []) ++ (32 + fld w 30 4) :: if 3 ≤ fld w 27 3 then [32 + fld w 0 4] else []) t →
      isDA (fRd w) = true → fld w 27 3 ≤ 4 → fld w 24 3 = 0 → (3 ≤ fld w 27 3 → fld w 4 20 = 0) →
      ((0x41800 ≤ a ∧ a < 0x100000 ∨ 0x140000 ≤ a ∧ a < 0x800000) →
        exec (if store then .st w else .ld w) s = .next ((t.mapSeq (fun q => { q with
          faddr := BitVec.ofNat 24 a, fstat := if store then 0x10A else 0x00A })).trap 0x0D))
      ∧ (t.seq.world = false ∧ t.seq.dsecBase.toNat ≤ a ∧ a < 2 ^ 18 →
        exec (if store then .st w else .ld w) s = .next (t.trap 0x02)))
  ∧ (
    ∀ (s t : State) (w : BitVec 40), s.Issues [] t → legalRRR unused unused unused unused w = true →
      (t.seq.tw = false → exec (.rtt w) s = .next (t.trap 1))
      ∧ (t.seq.priv = false → exec (.halt w) s = .next (t.trap 2) ∧ (t.seq.tw = true → exec (.rtt w) s = .next (t.trap 2))))
  ∧ (
    let wa (w : BitVec 40) : Nat := fld w 16 8 + 1
    let wb (w : BitVec 40) : Nat := fld w 4 8 + 1
    let wd (w : BitVec 40) : Nat := fld w 28 8 + 1
    let wg (w : BitVec 40) : Nat := fld w 24 8 + 1
    let w1 (_ : BitVec 40) : Nat := 1
    let w5 (_ : BitVec 40) : Nat := 5
    let w32 (_ : BitVec 40) : Nat := 32
    let w64 (_ : BitVec 40) : Nat := 64
    let cs (w : BitVec 40) : Nat := ([wa w, wa w, wa w, wa w, 32, 32, 64, 64, 32, 64][fld w 8 8]?).getD 0
    let cd (w : BitVec 40) : Nat := ([32, 32, 64, 64, wa w, wa w, wa w, wa w, 64, 32][fld w 8 8]?).getD 0
    ∀ e ∈ ([
       (.aadd, 0x80, 0x000F00FFFF, [(32, wa), (28, wa)], some wa), (.asub, 0x81, 0x000F00FFFF, [(32, wa), (28, wa)], some wa),
       (.acmp, 0x82, 0x000F00F8FF, [(32, wa), (28, wa)], some w1), (.aneg, 0x83, 0x00FF00FFFF, [(32, wa)], some wa),
       (.aabs, 0x84, 0x00FF00FFFF, [(32, wa)], some wa), (.amulu, 0x85, 0x000000000F, [(24, wa), (12, wb)], some wd),
       (.amuls, 0x86, 0x000000000F, [(24, wa), (12, wb)], some wd), (.adivu, 0x87, 0x000000000F, [(24, wa), (12, wb)], some wd),
       (.aremu, 0x88, 0x000000000F, [(24, wa), (12, wb)], some wd), (.adivs, 0x89, 0x000000000F, [(24, wa), (12, wb)], some wd),
       (.arems, 0x8A, 0x000000000F, [(24, wa), (12, wb)], some wd), (.ashl, 0x8B, 0x000F00FFFF, [(32, wa), (28, wa)], some wa),
       (.ashr, 0x8C, 0x000F00FFFF, [(32, wa), (28, wa)], some wa), (.asar, 0x8D, 0x000F00FFFF, [(32, wa), (28, wa)], some wa),
       (.asal, 0x8E, 0x000F00FFFF, [(32, wa), (28, wa)], some wa), (.arol, 0x8F, 0x000F00FFFF, [(32, wa), (28, wa)], some wa),
       (.aror, 0x90, 0x000F00FFFF, [(32, wa), (28, wa)], some wa), (.amov, 0x91, 0x00FF00FFFF, [(32, wa)], some wa),
       (.abool2, 0x92, 0x000F00F0FF, [(32, wa), (28, wa)], some wa),
       (.abool3, 0x93, 0x00000000FF, [(32, wa), (28, wa), (24, wa)], some wa), (.abcast, 0x94, 0x0FFF00C0FF, [], some wa),
       (.afadd_32, 0xA0, 0x000FFFFFFF, [(32, w32), (28, w32)], some w32),
       (.afsub_32, 0xA1, 0x000FFFFFFF, [(32, w32), (28, w32)], some w32),
       (.afmul_32, 0xA2, 0x000FFFFFFF, [(32, w32), (28, w32)], some w32),
       (.afma_32, 0xA3, 0x0000FFFFFF, [(32, w32), (28, w32), (24, w32)], some w32),
       (.afdiv_32, 0xA4, 0x000FFFFFFF, [(32, w32), (28, w32)], some w32),
       (.afsqrt_32, 0xA5, 0x00FFFFFFFF, [(32, w32)], some w32),
       (.afcmp_32, 0xA6, 0x000FFFF8FF, [(32, w32), (28, w32)], some w1),
       (.afadd_64, 0xA8, 0x000FFFFFFF, [(32, w64), (28, w64)], some w64),
       (.afsub_64, 0xA9, 0x000FFFFFFF, [(32, w64), (28, w64)], some w64),
       (.afmul_64, 0xAA, 0x000FFFFFFF, [(32, w64), (28, w64)], some w64),
       (.afma_64, 0xAB, 0x0000FFFFFF, [(32, w64), (28, w64), (24, w64)], some w64),
       (.afdiv_64, 0xAC, 0x000FFFFFFF, [(32, w64), (28, w64)], some w64),
       (.afsqrt_64, 0xAD, 0x00FFFFFFFF, [(32, w64)], some w64),
       (.afcmp_64, 0xAE, 0x000FFFF8FF, [(32, w64), (28, w64)], some w1), (.afcvt, 0xAF, 0x00FF00F0FF, [(32, cs)], some cd),
       (.ashift, 0xB0, 0x0000000FFF, [(32, wg)], some wg), (.agath, 0xB1, 0x0000FFF001, [(32, wg)], some wg),
       (.agathor, 0xB2, 0x0000FFF03F, [(32, wg)], some wg), (.agset, 0xB8, 0xF0FFFFFF07, [(32, w1)], none),
       (.agnz, 0xB9, 0xF0FF00FF07, [(32, wa)], none), (.agclr, 0xBA, 0xFFFFFFFF07, [], none),
       (.agdlv, 0xBB, 0xFFFFFFFF07, [], none), (.amset, 0xBC, 0xF0FFFFFFFF, [(32, w1)], none),
       (.amall, 0xBD, 0xFFFFFFFFFF, [], none), (.amnot, 0xBE, 0xFFFFFFFFFF, [], none),
       (.amand, 0xBF, 0xF0FFFFFFFF, [(32, w1)], none), (.ain, 0xC0, 0x0FFF00E0FF, [], some wa),
       (.aout, 0xC1, 0xF0FF00E0FF, [(32, wa)], none), (.atake, 0xC2, 0xFFFFFFFFFF, [], none),
       (.apost, 0xC3, 0xFFFFFFFFFF, [], none), (.afclr, 0xC4, 0xFFFFFFE0FF, [], none),
       (.afmov, 0xC5, 0x0FFFFFFFFF, [], some w5), (.aside, 0xC6, 0xFFFFFFFCFF, [], none)] :
        List ((BitVec 40 → Instr) × Nat × Nat × List (Nat × (BitVec 40 → Nat)) × Option (BitVec 40 → Nat))),
    ∀ (s t : State) (w : BitVec 40), s.Issues (macroSrcs e.2.1 w) t →
      let op := e.2.1
      let base (k : Nat) : Nat := (aGet t.seq (fld w k 4)).toNat
      let user (k n : Nat) : Prop := base k + n ≤ 1904 ∨ 2048 ≤ base k ∧ base k + n ≤ 3968
      let bad : Prop := Nat.land w.toNat e.2.2.1 ≠ 0 ∨ (op = 0x82 ∧ 6 ≤ fld w 8 3) ∨ ((op = 0xA6 ∨ op = 0xAE) ∧ 5 ≤ fld w 8 3)
        ∨ (op = 0xAF ∧ (10 ≤ fld w 8 8 ∨ 8 ≤ fld w 8 8 ∧ fld w 16 8 ≠ 0)) ∨ ((op = 0xC0 ∨ op = 0xC1) ∧ 15 < fld w 8 4 + fld w 16 8)
        ∨ (op = 0xC6 ∧ fld w 8 2 = 0) ∨ (op = 0x94 ∧ (23 < fld w 16 8 ∨ 48 ≤ fld w 8 6))
      (bad → exec (e.1 w) s = .next (t.trap 0x01))
      ∧ (¬bad → ((∃ f ∈ e.2.2.2.1, ¬user f.1 (f.2 w)) ∨ (∃ n, e.2.2.2.2 = some n ∧ ¬user 36 (n w))
          ∨ (∃ f g r, e.2.2.2.1 = f :: g :: r ∧ (2048 ≤ base f.1 ↔ 2048 ≤ base g.1))
          ∨ (op = 0xB1 ∧ (sget 0 t.seq.stcnt (fld w 6 6)).toNat ≤ fld w 1 5)
          ∨ (op = 0xB2 ∧ (sget 0 t.seq.stcnt (fld w 6 6)).toNat = 0)) →
        exec (e.1 w) s = .next (t.trap 0x0D)))

/-- R262, R277, R278: RTT in the trap window of a privileged handler, once no macro of the handler issues, restores PC,
SEQ_CR, the privilege, interrupt enable, lock, world, level and repeat count from D8 to D13; the suspended macro resumes with
its restore routine, or is abandoned where D10[8] is 0. -/
def Obligations.ReturnFromTrapRestores : Prop :=
  ∀ (s t : State) (w : BitVec 40), s.Issues [] t → legalRRR unused unused unused unused w = true → t.seq.tw = true →
    t.seq.priv = true → t.handlerBusy = false →
    let u := t.ticks 3
    let d (r : Nat) : Word := dGet u.seq r
    let back (q : Seq) : Seq := { q with
      pc := (d 8).extractLsb' 0 18, cr := (d 13).extractLsb' 0 5, priv := (d 10).getLsbD 3, ie := (d 10).getLsbD 4,
      locked := (d 10).getLsbD 5, world := q.world && (d 10).getLsbD 2, ilvl := fld (d 10) 9 5, depth := q.depth - 1,
      tw := false, rptc := d 12, loaded := none, freeAt := u.cycle, tl := q.tl || ((d 10).getLsbD 5 && u.stretching) }
    (u.arr.susp = none → exec (.rtt w) s = .next (u.mapSeq back))
    ∧ (∀ r, u.arr.susp = some r → (d 10).getLsbD 8 = true → exec (.rtt w) s = .next ((u.mapArr (fun a => { a with
        susp := none, run := some r, inject := a.inject ++ restoreWords })).mapSeq (fun q => { back q with
          wait := if r.mac.checked then .check else q.wait })))
    ∧ (∀ r, u.arr.susp = some r → (d 10).getLsbD 8 = false → u.seq.depth = u.arr.suspDepth →
        exec (.rtt w) s = .next ((u.mapArr (fun a => { a with susp := none })).mapSeq back))

/-- R255, R267, R268, R260: with no macro in issue, INTERRUPT_ENTRY takes the lowest line that is pending, enabled, below ILVL
and, for a secure context, secure, at the boundary before the next instruction, into the table of the line's world. Cycle 0 is
that of the word issued last where that is a safe point. With no line to take it does nothing. An instruction whose boundary
an interrupt is due at is replaced by it. -/
def Obligations.InterruptEntryTakesLowestLine : Prop :=
  (∀ (s : State) (l : Nat),
    let q := s.seq
    let may (k : Nat) : Bool := q.ipend.getLsbD k && q.imask.getLsbD k && decide (k < q.ilvl) && (!q.world || q.isec.getLsbD k)
    let c0 := if s.arr.lastSafe then s.cycle - 1 else s.cycle
    (s.running = true → q.wait = .none → s.arr.run = none → s.arr.inject = [] → s.arr.check = none → q.freeAt ≤ s.cycle → q.depth < 15 →
      q.ie = true → q.tw = false → q.locked = false → l < 16 → may l = true → (∀ k < l, may k = false) →
      ∃ t, exec .interruptEntry s = .next t ∧ s.SeqOnly t ∧ t.seq.pc = BitVec.ofNat 18
          (256 * (if q.isec.getLsbD l then q.tvbaseS else q.tvbase).toNat + 8 * (16 + l))
        ∧ t.seq.world = q.isec.getLsbD l ∧ t.seq.ilvl = l ∧ t.seq.tw = true ∧ t.seq.ie = false ∧ t.seq.priv = true
        ∧ t.seq.depth = q.depth + 1 ∧ dGet t.seq 8 = q.pc.setWidth 24 ∧ fld (dGet t.seq 11) 0 5 = 16 + l
        ∧ dGet t.seq 12 = q.rptc ∧ t.seq.ipend = q.ipend ∧ t.seq.freeAt = c0 + 3
        ∧ dGet t.seq 14 = BitVec.ofNat 24 (if c0 < s.cycle then q.bprev else q.bphase))
    ∧ ((q.ie = false ∨ q.tw = true ∨ q.locked = true ∨ ∀ k < 16, may k = false) → exec .interruptEntry s = .next s))
  ∧ (∀ (s t : State) (w : BitVec 40) (l c0 : Nat), s.issuing = true → s.toIssue [] = t → t.issuing = true →
      t.interruptDue = some (l, c0) → exec (.nop w) s = .next (t.takeInterrupt l c0))
  ∧ (∀ (s : State) (r : Run) (l c0 : Nat), s.arr.run = some r → s.seq.depth < 15 → l < 16 → s.interruptDue = some (l, c0) →
      r.mac.level = false ∧ s.arr.lastSafe = true ∧ c0 = s.cycle - 1
      ∧ (let t := s.takeInterrupt l c0
         t.arr.run = none ∧ t.arr.susp = some r ∧ t.arr.inject = saveWords ∧ (dGet t.seq 10).getLsbD 8 = true
         ∧ t.seq.freeAt = c0 + 3 ∧ t.cv = s.cv ∧ t.smem = s.smem))

/-- R193, R194, R198, R283: each array macro, with its operands legal and placed, dispatches in the cycle in which the array
unit is free: the macro with its opcode, the bases that the A registers of its format hold (0 for a field the format lacks)
and the rounding mode of SEQ_FPCSR enters the array unit from its first word, PC moves on and the next instruction may issue
in that cycle, unless a check tail will hold it (R350). -/
def Obligations.MacrosDispatch : Prop :=
  ∀ e ∈ ([
    (.aadd, 0x80), (.asub, 0x81), (.acmp, 0x82), (.aneg, 0x83), (.aabs, 0x84), (.amulu, 0x85), (.amuls, 0x86),
      (.adivu, 0x87), (.aremu, 0x88), (.adivs, 0x89), (.arems, 0x8A), (.ashl, 0x8B), (.ashr, 0x8C), (.asar, 0x8D),
      (.asal, 0x8E), (.arol, 0x8F), (.aror, 0x90), (.amov, 0x91), (.abool2, 0x92), (.abool3, 0x93), (.abcast, 0x94),
      (.afadd_32, 0xA0), (.afadd_64, 0xA8), (.afsub_32, 0xA1), (.afsub_64, 0xA9), (.afmul_32, 0xA2), (.afmul_64, 0xAA),
      (.afma_32, 0xA3), (.afma_64, 0xAB), (.afdiv_32, 0xA4), (.afdiv_64, 0xAC), (.afsqrt_32, 0xA5), (.afsqrt_64, 0xAD),
      (.afcmp_32, 0xA6), (.afcmp_64, 0xAE), (.afcvt, 0xAF), (.ashift, 0xB0), (.agath, 0xB1), (.agathor, 0xB2),
      (.agset, 0xB8), (.agnz, 0xB9), (.agclr, 0xBA), (.agdlv, 0xBB), (.amset, 0xBC), (.amall, 0xBD), (.amnot, 0xBE),
      (.amand, 0xBF), (.ain, 0xC0), (.aout, 0xC1), (.atake, 0xC2), (.apost, 0xC3), (.afclr, 0xC4), (.afmov, 0xC5),
      (.aside, 0xC6)] : List ((BitVec 40 → Instr) × Nat)),
  ∀ (s t : State) (w : BitVec 40), s.Issues (macroSrcs e.2 w) t → macroIllegal e.2 w = false → macroMisplaced t.seq e.2 w = false →
    let u := t.tick.untilDispatch
    let m := u.seq.macro e.2 w
    let reg (k : Nat) : Nat := (aGet u.seq (fld w k 4)).toNat
    u.arr.busy = false → u.running = true → ∃ t', exec (e.1 w) s = .next t' ∧ { t' with seq := u.seq, arr := u.arr } = u
      ∧ { t'.seq with pc := u.seq.pc, rptc := u.seq.rptc, freeAt := u.seq.freeAt, loaded := u.seq.loaded, wait := u.seq.wait } = u.seq
      ∧ u.seq.Retired t'.seq u.cycle 0 ∧ t'.seq.wait = (if isArith e.2 && u.seq.fpcsr.extractLsb' 12 5 != 0 then .check else .none)
      ∧ t'.arr.run = some m.start ∧ m.start.issued = 0 ∧ m.op = e.2 ∧ m.word = w ∧ m.bd = reg 36
      ∧ m.b1 = reg (if afOf e.2 = 2 then 24 else 32) ∧ m.b2 = (if afOf e.2 = 3 then 0 else reg (if afOf e.2 = 2 then 12 else 28))
      ∧ m.b3 = (if afOf e.2 = 1 then reg 24 else 0)
      ∧ m.rm = fld u.seq.fpcsr 0 2 ∧ m.level = decide (u.seq.depth ≠ 0)
      ∧ { t'.arr with run := u.arr.run, susp := u.arr.susp } = u.arr ∧ (u.seq.depth = 0 → t'.arr.susp = u.arr.susp)

/-- R37 to R45, R51, R56: one cycle of a nano-word in one PE, for the codes that are not reserved, where no bit-row holds an
error: operand latches, truth table, carry, the gated updates of M, G and memory, N from its neighbour, the inbox TAKE and the
outbox bit. A PE of a tile that does not execute keeps everything. R54, R55, R58, R88: what a shift brings is the neighbour's
N; 0 from a gated tile, and 0 from a secure tile to a non-secure one. With no failed row the neighbour is the next PE of the
torus. -/
def Obligations.NanoWordInOnePe : Prop :=
  (
    ∀ (s : State) (ts : BitVec 272) (w : BitVec 128) (i : Nat), i < numPE → s.cv.flips = [] → fld w 47 3 ≤ 4 → fld w 45 2 ≤ 2 →
      fld w 58 3 ≤ 4 →
      let c := s.cv
      let d := (s.pe ts w).cv
      let bit (p : Plane) : Bool := p.getLsbD i
      let x := if w.getLsbD 11 then bit (pget c.mem (fld w 0 11)) else bit c.a
      let y := if w.getLsbD 23 then bit (pget c.mem (2048 + fld w 12 11)) else bit c.b
      let z := ([bit c.c, bit c.n, bit c.g, bit c.m, bit (pget c.inbox (fld w 50 4))][fld w 47 3]?).getD false
      let f := (w.extractLsb' 37 8).getLsbD (4 * x.toNat + 2 * y.toNat + z.toNat)
      let maj (p q r : Bool) : Bool := (p && q) || (p && r) || (q && r)
      let k := ([maj x y z, maj x (!y) z, f][fld w 45 2]?).getD false
      let save := 2040 ≤ fld w 24 12 ∧ fld w 24 12 ≤ 2047
      let host := !w.getLsbD 77
      (ts.getLsbD (peTile i) = false → bit d.a = bit c.a ∧ bit d.b = bit c.b ∧ bit d.c = bit c.c ∧ bit d.m = bit c.m ∧ bit d.g = bit c.g
        ∧ bit d.n = bit c.n ∧ ∀ j, bit (pget d.mem j) = bit (pget c.mem j) ∧ bit (pget d.inbox j) = bit (pget c.inbox j)
          ∧ bit (pget d.outbox j) = bit (pget c.outbox j) ∧ bit (pget d.egress j) = bit (pget c.egress j))
      ∧ (ts.getLsbD (peTile i) = true → bit d.a = x ∧ bit d.b = y ∧ bit d.c = (if w.getLsbD 54 then k else bit c.c)
        ∧ bit d.m = (if w.getLsbD 55 then f else bit c.m) ∧ bit d.g = (if w.getLsbD 56 && bit c.m then f else bit c.g)
        ∧ bit d.n = (if w.getLsbD 57 then (if fld w 58 3 = 0 then f else bit (s.shifted c.n (fld w 58 3))) else bit c.n)
        ∧ (∀ j, bit (pget d.mem j) = if w.getLsbD 36 = true ∧ j = fld w 24 12 ∧ (bit c.m = true ∨ save) then f else bit (pget c.mem j))
        ∧ (∀ j < 16, bit (pget d.inbox j) = if host && w.getLsbD 61 then bit (pget c.stage j) else bit (pget c.inbox j))
        ∧ (∀ j < 16, bit (pget d.egress j) = if host && w.getLsbD 62 && bit c.m then bit (pget c.outbox j) else bit (pget c.egress j))
        ∧ (∀ j < 16, bit (pget d.outbox j) = if host && w.getLsbD 63 && decide (j = fld w 64 4) then f
            else if host && w.getLsbD 62 && bit c.m then false else bit (pget c.outbox j))))
  ∧ (
    ∀ (s : State) (n : Plane) (x y : Nat), x < 1024 → y < 1024 → s.cv.failed = [] →
      ∀ e ∈ [(1, x, (y + 1) % 1024), (2, (x + 1) % 1024, y), (3, x, (y + 1023) % 1024), (4, (x + 1023) % 1024, y)],
      let i := 1024 * y + x
      let j := 1024 * e.2.2 + e.2.1
      (s.shifted n e.1).getLsbD i = (s.cv.power.getLsbD (peTile j) && !(s.physWorld (peTile j) && !s.physWorld (peTile i))
        && n.getLsbD j))

/-- R41, R49, R53, R339, R340, R346: the last word of an arithmetic macro writes its result and sets its flags in every
executing PE whose M is 1. No other memory bit changes but the scratch of the macro's level in executing PEs, where no bit-row
holds an error and no handler has spoiled the macro. R318 to R320, R339: the integer results of the macros for operands of
their widths: sums, differences and products modulo the destination's width with no flag, quotients and remainders with DZ and
OF at their edges. -/
def Obligations.MacroResultsInOnePe : Prop :=
  (
    ∀ (s : State) (ts : BitVec 272) (m : Macro) (n i dw : Nat), isArith m.op = true → m.bad = false → s.cv.flips = [] → i < numPE →
      (macroFields m.op m.word).2 = some dw → (m.bd + dw ≤ 1904 ∨ 2048 ≤ m.bd ∧ m.bd + dw ≤ 3968) →
      let c := s.cv
      let d := (s.macroWord ts m n n false).cv
      let v (b k : Nat) : Nat := (((macroFields m.op m.word).1[k]?).map (fun e => fieldAt c b e.2 i)).getD 0
      let r := arith m (v m.b1 0) (v m.b2 1) (v m.b3 2)
      let bit (k : Nat) (q : Canvas) : Bool := (pget q.mem k).getLsbD i
      let on : Bool := ts.getLsbD (peTile i) && c.m.getLsbD i
      let sc := if m.level then 64 else 0
      (∀ j, (ts.getLsbD (peTile i) = true → ¬ (1912 + sc ≤ j ∧ j < 1976 + sc) ∧ ¬ (3968 + sc ≤ j ∧ j < 4032 + sc)) → bit j d = if on = false then bit j c else if m.bd ≤ j ∧ j < m.bd + dw then r.1.testBit (j - m.bd)
        else if 1904 ≤ j ∧ j < 1909 then bit j c || r.2.getLsbD (j - 1904) else bit j c)
      ∧ d.m.getLsbD i = c.m.getLsbD i ∧ d.g.getLsbD i = c.g.getLsbD i
      ∧ (ts.getLsbD (peTile i) = false → d.a.getLsbD i = c.a.getLsbD i ∧ d.n.getLsbD i = c.n.getLsbD i))
  ∧ (
    ∀ (m : Macro) (x y z : Nat),
      let w := fld m.word 16 8 + 1
      let w2 := fld m.word 4 8 + 1
      let wd := fld m.word 28 8 + 1
      let r := arith m x y z
      (m.op = 0x80 → r = ((x + y) % 2 ^ w, 0))
      ∧ (m.op = 0x81 → x < 2 ^ w → y < 2 ^ w → r.1 < 2 ^ w ∧ (r.1 + y) % 2 ^ w = x ∧ r.2 = 0)
      ∧ (m.op = 0x83 → x < 2 ^ w → r.1 < 2 ^ w ∧ (r.1 + x) % 2 ^ w = 0 ∧ (r.2 = if x = 2 ^ (w - 1) then fOF else 0))
      ∧ (m.op = 0x85 → r = (x * y % 2 ^ wd, 0))
      ∧ (m.op = 0x87 → y ≠ 0 → r = (x / y % 2 ^ wd, 0))
      ∧ (m.op = 0x87 → y = 0 → r = (2 ^ wd - 1, fDZ))
      ∧ (m.op = 0x88 → y ≠ 0 → x % y < 2 ^ wd → r = (x % y, 0))
      ∧ (m.op = 0x88 → y = 0 → r = (x % 2 ^ wd, fDZ))
      ∧ (m.op = 0x89 → y ≠ 0 → x < 2 ^ w → y < 2 ^ w2 → ¬(x = 2 ^ (w - 1) ∧ y = 2 ^ w2 - 1) →
        r = (low wd ((sgn w x).tdiv (sgn w2 y)), 0))
      ∧ (m.op = 0x89 → y = 2 ^ w2 - 1 → x = 2 ^ (w - 1) → r = (low wd (-2 ^ (w - 1)), fOF)))

/-- R281, R120, R131, R136: a word or an idle word issues in every array cycle and raises ISN by 1 modulo 65,536; a macro word
issued in cycle t executes in cycle t + 12. R110, R112, R117, R295: a capture or a delivery lands 64, 32 or 48 cycles after
its word: TALLY_CAPTURE, REGION_CAPTURE and FLAG_GROUP_DELIVERY run the array up to and including that cycle, in which the
count, the region map or the flag group changes, beside the scans that land. R295, R348 to R351: SCAN_RESULT runs to the
landing of a scan; once a check has landed, ARRAY_FP_CHECK_RESULT ends the hold: with no enabled flag set execution goes on,
and else trap 0x0B is taken with the flags in SEQ_FPCSR. -/
def Obligations.ArrayCyclesAndReductions : Prop :=
  (
    (∀ s : State, exec .microWord s = .next s.tick ∧ s.tick.cycle = s.cycle + 1
        ∧ s.tick.seq.bphase = min 0xFFFFFF (s.seq.bphase + 1))
    ∧ (∀ s : State, s.tick.arr.isn = s.arr.isn + 1)
    ∧ (∀ (s : State) (p : PipeWord) (r : List PipeWord), s.arr.pipe = p :: r → nVALID p.bits = true → p.issued + 12 ≤ s.cycle →
        exec .nanoWord s = .next s.tick ∧ s.execDue = (s.mapArr (fun a => { a with pipe := r })).execWord p)
    ∧ (∀ (s : State) (p : PipeWord) (r : List PipeWord), s.arr.pipe = p :: r → s.cycle < p.issued + 12 → s.execDue = s))
  ∧ (
    (∀ (s : State) (e : Nat × Bool × Nat) (l : List (Nat × Bool × Nat)), s.red.tally = e :: l → e.1 + 64 ≤ s.cycle →
        exec .tallyCapture s = .next s.tick)
    ∧ (∀ (s : State) (e : Nat × BitVec 256) (l : List (Nat × BitVec 256)), s.red.region = e :: l → e.1 + 32 ≤ s.cycle →
        exec .regionCapture s = .next s.tick)
    ∧ (∀ (s : State) (e : Nat × Nat × Bool) (l : List (Nat × Nat × Bool)), s.red.deliver = e :: l → e.1 + 48 ≤ s.cycle →
        exec .flagGroupDelivery s = .next s.tick)
    ∧ (∀ (s : State), let s1 := s.mapArr (fun a => a.mapRuns (fun r => r.landScans s.cycle))
        (∀ (t v : Nat) (sec : Bool), s.red.deliver = [] → s.red.region = [] → s.red.tally = [(t, sec, v)] →
          s.land = if t + 64 ≤ s.cycle then
            (s1.mapRed (fun r => { r with tally := [], count := BitVec.ofNat 21 v, countSecure := sec })).mapOut
              (fun o => { o with tcapw := true }) else s1)
        ∧ (∀ (t : Nat) (v : BitVec 256), s.red.deliver = [] → s.red.tally = [] → s.red.region = [(t, v)] → t + 32 ≤ s.cycle →
          s.land = (s1.mapRed (fun r => { r with region := [] })).mapOut (fun o => { o with region := v, rcapw := true }))
        ∧ (∀ (t g : Nat) (v : Bool), s.red.region = [] → s.red.tally = [] → s.red.deliver = [(t, g, v)] → t + 48 ≤ s.cycle →
          s.land = (s1.mapRed (fun r => { r with deliver := [] })).deliver g v))
    ∧ (∀ (r : Run) (t : Nat) (x : Scan), r.scans = [x] → (r.landScans t).scans = (if x.due t then [] else [x])
        ∧ (r.landScans t).l2 = if x.due t then x.value else r.l2))
  ∧ (
    (∀ s : State, exec .scanResult s = .next (s.tickUntil (fun t => !t.scanning) 2048))
    ∧ (∀ (s : State) (c : Check), s.running = true → s.seq.wait = .check → s.checkLanded = true → s.arr.check = some c →
        s.seq.tw = false → s.seq.depth < 15 →
        ∃ t, exec .arrayFpCheckResult s = .next t ∧ { t with seq := s.seq, arr := s.arr } = s ∧ t.arr = { s.arr with check := none }
          ∧ (s.checkFlags c = 0 → t.seq = { s.seq with wait := .none, freeAt := s.cycle })
          ∧ (s.checkFlags c ≠ 0 → t.seq.pc = BitVec.ofNat 18 (256 * (if s.seq.world then s.seq.tvbaseS else s.seq.tvbase).toNat
              + 8 * 0x0B) ∧ t.seq.wait = .none ∧ t.seq.tw = true ∧ fld t.seq.fpcsr 17 5 = (s.checkFlags c).toNat
            ∧ dGet t.seq 8 = s.seq.pc.setWidth 24
            ∧ (dGet t.seq 11).toNat = 0x0B + 32 * (s.checkFlags c).toNat)))

/-- R475 to R480, R482, R746: in the close cycle of its beat window, the one before phase LAG, a trigger word is built in
ARMED and RUN, and the next window begins empty; no second close cycle comes in a beat, and the beat's end closes a window
that has not closed. R483 to R487, R495: an enabled output lane of a powered, locked quad sends, in ARMED and RUN, the frame
of R484 where its stripe set is whole (here of a whole-word lane), after the idles since the last, or counts an omission while
the last is being sent; it sends idles otherwise and in CONFIGURE and MAINTENANCE; every other lane is in electrical idle. An
output PLL's lock follows it. R488, R489: in RUN, with neither FAULT nor HALT, a delivery reaches every accept pin that
selects its group: the pin has seen one, its level is the delivery's, and a 1 starts a pulse of WIDTH array cycles, or starts
it anew; each array cycle takes one from a pulse, which ends with the last. While FAULT or HALT holds a delivery reaches no
pin. -/
def Obligations.TriggerOutputs : Prop :=
  (
    ∀ s : State,
      let due : Prop := s.out.closed = false ∧ s.seq.bphase + 1 = s.rfld bOUT 0 16 8
      let empty (o : Formatter) : Formatter := { o with gor := 0, gdlv := 0, tcapw := false, rcapw := false, closed := true }
      (¬ due → exec .triggerWord s = .next s)
      ∧ (due → s.sys.mode ≠ .armed → s.sys.mode ≠ .run → exec .triggerWord s = .next (s.mapOut empty))
      ∧ ((s.sys.mode = .armed ∨ s.sys.mode = .run) → ∃ w : BitVec 512,
        (due → exec .triggerWord s = .next (s.mapOut (fun o => { empty o with word := w, aliveCnt := o.aliveCnt + 1 })))
        ∧ (s.out.closed = false → s.windowEdge = s.mapOut (fun o =>
            { empty o with word := w, aliveCnt := o.aliveCnt + 1, closed := false }))
        ∧ w.extractLsb' 0 48 = s.wordMark ∧ w.extractLsb' 48 4 = s.out.gor ∧ w.extractLsb' 52 4 = s.out.gdlv
        ∧ w.extractLsb' 56 21 = s.red.count ∧ w.getLsbD 77 = s.out.tcapw ∧ w.getLsbD 78 = s.out.rcapw ∧ w.getLsbD 79 = false
        ∧ w.getLsbD 80 = s.busy ∧ w.getLsbD 81 = s.seq.tl ∧ w.getLsbD 82 = s.degraded
        ∧ w.getLsbD 83 = (s.laneBits != 0) ∧ w.getLsbD 84 = s.out.deadtime ∧ w.getLsbD 85 = s.vetoed
        ∧ (w.extractLsb' 86 2).toNat = geomState s.cv.failed ∧ w.extractLsb' 88 8 = s.out.aliveCnt
        ∧ (∀ l < 144, w.getLsbD (96 + l) = (s.laneEn l && s.laneState l != 3)) ∧ w.extractLsb' 240 16 = 0
        ∧ w.extractLsb' 256 256 = s.out.region))
  ∧ (
    ∀ (s : State) (n : Fin 16),
      let on : Bool := (s.reg bOUT (0x010 + n)).getLsbD 23 && s.domainUp (308 + n / 4) && (s.reg bOUT (8 + n / 4)).getLsbD 0
      let live : Prop := s.sys.mode = .armed ∨ s.sys.mode = .run
      let idle (k : Nat) : List Piece := List.replicate k (idlePiece (s.outCode n))
      let idles (g : Option Nat) : Prop := exec (.outputFrame n g) s = .next (s.outSend n (idle (g.getD 0)))
      (∀ g, (on = false ∨ s.sys.mode = .sleep ∨ s.sys.mode = .standby) → exec (.outputFrame n g) s = .next s)
      ∧ (on = true → (s.sys.mode = .configure ∨ s.sys.mode = .maintenance) → ∀ g, idles g)
      ∧ (on = true → live → s.setWhole n = false → ∀ g, idles g)
      ∧ (on = true → live → s.setWhole n = true → exec (.outputFrame n none) s = .next (s.count bOUT (0x020 + n) 1)
        ∧ ∀ k, exec (.outputFrame n (some k)) s = .next (s.outSend n (idle k ++ s.frame n)))
      ∧ (s.stripe n = 0 → ∃ (c : BitVec 32) (crc : BitVec 32), crc = crc32 (leBytes 64 s.out.word.toNat)
        ∧ fld c 24 8 = 0x10 ∧ fld c 20 4 = n ∧ fld c 16 4 = 0 ∧ fld c 0 16 = fld s.out.word 0 16
        ∧ (s.outCode n = 0 → s.frame n = orderedPiece 0 c :: (leBytes 64 s.out.word.toNat ++ leBytes 4 crc.toNat).map (fun b =>
            .chars [(false, b.toNat)]))
        ∧ (s.outCode n = 1 → s.frame n = orderedPiece 1 c :: ((List.range 8).map (fun i =>
            .block headData (s.out.word.extractLsb' (64 * i) 64)) ++ [.block headData (crc.setWidth 64)])))
      ∧ (∀ q : Fin 4, exec (.outputPllLossOfLock q) s = .next (s.setRfld bOUT (8 + q) 0 1 0)
        ∧ (s.domain (308 + q) = true → exec (.outputPllLock q) s = .next (s.setRfld bOUT (8 + q) 0 1 1))))
  ∧ (
    ∀ (s : State) (n : Fin 4),
      (∀ (g : Nat) (v : Bool), (s.sys.mode ≠ .run ∨ s.out.fault = true ∨ s.seq.halted = true) → s.pinsTake g v = s)
      ∧ (∀ (g : Nat) (v : Bool), s.sys.mode = .run → s.out.fault = false → s.seq.halted = false → s.rfld bOUT (4 + n) 20 2 = g →
        let o := (s.pinsTake g v).out
        o.accSeen.getLsbD n = true ∧ o.accHigh.getLsbD n = v ∧ sget 0 o.pulse n =
          if s.rfld bOUT (4 + n) 22 2 = 2 ∧ v = true then s.rfld bOUT (4 + n) 0 8 else sget 0 s.out.pulse n)
      ∧ (swf 0 s.out.pulse = true → sget 0 s.pulseTick.out.pulse n = sget 0 s.out.pulse n - 1)
      ∧ (sget 0 s.out.pulse n = 1 →
        exec (.accPulseEnd n) s = .next (s.mapOut (fun o => { o with pulse := sput 0 o.pulse n 0 })))
      ∧ (sget 0 s.out.pulse n ≠ 1 → exec (.accPulseEnd n) s = .next s))

/-- R379 to R381, R384, R385, R475, R494, R527, R701: a beat closes an open window, counts up, carries into the epoch after
2^40 beats and begins at SEQ_BPHASE 0; ALIVE toggles in ARMED and RUN when the low three count bits are 0. A checkpoint
restart ends in it, and with it FAULT; a beat that a WAITB meets while the deadtime hold stands counts as skipped. A loss of
BEATCLK latches LOST, clears OK, sets TIMING_LOST in a locked section and is reported once; BEATCLK out of range is latched
and reported. -/
def Obligations.BeatsAdvancePostmark : Prop :=
  (∀ s : State, s.tim.begun = true → ∃ t : State, exec .beat s = .next t.deadBeat
      ∧ t.tim.beat = s.tim.beat + 1 ∧ t.tim.epoch = (if s.tim.beat = BitVec.allOnes 40 then s.tim.epoch + 1 else s.tim.epoch)
      ∧ t.tim.present = true ∧ t.tim.marks = ((t.tim.epoch ++ t.tim.beat : BitVec 48) :: s.tim.marks).take 257
      ∧ t.seq = { s.seq with bphase := 0 } ∧ t.cv = s.cv ∧ t.smem = s.smem ∧ t.arr = s.arr ∧ t.mem = s.mem
      ∧ (let o := if s.restartDue then { s.windowEdge.out with fault := false, accSeen := 0 } else s.windowEdge.out
         t.out = { o with alive := if (s.sys.mode = .armed ∨ s.sys.mode = .run) ∧ (s.tim.beat + 1).toNat % 8 = 0
          then !s.out.alive else s.out.alive })
      ∧ t.sys.restart = (s.sys.restart && !s.restartDue)
      ∧ (let skips : Prop := t.running = true ∧ s.seq.wait = .beat ∧ t.deadHold = true
         (¬ skips → t.deadBeat = t)
         ∧ (skips → t.deadBeat = (t.mapFrk (fun f => { f with skipped := f.skipped + 1 })).count bFRK 7 1)))
  ∧ (∀ s : State, s.tim.begun = false → ∃ t : State, exec .beat s = .next t.deadBeat ∧ t.tim.beat = s.tim.beat
      ∧ t.tim.epoch = s.tim.epoch ∧ t.tim.begun = true)
  ∧ (∀ s : State, s.tim.present = true →
      let t := ((({ s with tim := { s.tim with present := false } }).setRfld bTIM 1 23 1 1).setRfld bTIM 1 20 1 0).mapSeq
        (fun q => { q with tl := q.tl || q.locked })
      exec .beatclkLost s = .next (((List.range 36).foldl (fun u q => if (u.reg (bLQ + q) 0).getLsbD 23 then u.quadLose q else u)
        t).notice 0x0D 0 .ok bTIM))
  ∧ (∀ s : State, s.tim.present = false → exec .beatclkLost s = .next s)
  ∧ (∀ s : State, exec .beatclkOutOfRange s =
      .next (((({ s with tim := { s.tim with stray := true } }).setRfld bTIM 1 22 1 1).setRfld bTIM 1 20 1 0).notice 0x0D 0 .ok bTIM))

/-- R386 to R390: a good frame for this partition or for every one takes effect at the beat it begins: the last command and
ARG are recorded and sequencer line 1 becomes pending; RUN_START begins the accepted run in ARMED and is otherwise counted as
missed; SPILL_WARNING and SPILL_END reach the meter; BEAT_RESET clears the count; EPOCH sets the epoch; a hold that a new
window has not ended counts the beat as skipped for a WAITB (R527). A frame for another partition changes nothing, and one
whose CRC, STOP, CODE or ARG is wrong is counted. Without BEATCLK no frame is sampled (R384). -/
def Obligations.TstreamCommandsTakeEffect : Prop :=
  ∀ (s : State) (part arg : BitVec 8),
    let mine := s.tim.present = true ∧ (part = 0xFF ∨ part.toNat = s.rfld bTIM 0 0 8)
    let at_ (f : Timing → Timing) (code : Nat) : State :=
      (((s.beatBegins f).setRfld bTIM 1 16 4 code).setRfld bTIM 1 8 8 arg.toNat).raiseLine 1
    (mine → arg = 0 → exec (.sync part arg) s = .next (at_ id 0).deadBeat
      ∧ (∀ n, (at_ id 1).sys.mode = .armed → (at_ id 1).sys.accepted = some n →
          exec (.tstreamRunStart part arg) s = .next (((at_ id 1).beginRun n).windowStart).deadBeat)
      ∧ ((at_ id 1).sys.mode ≠ .armed ∨ (at_ id 1).sys.accepted = none →
          exec (.tstreamRunStart part arg) s = .next ((at_ id 1).setRfld bTIM 1 21 1 1).deadBeat)
      ∧ exec (.spillEnd part arg) s = .next (at_ id 3).spillOff.deadBeat
      ∧ exec (.beatReset part arg) s = .next (at_ (fun t => { t with beat := 0 }) 4).deadBeat)
    ∧ (mine → exec (.epoch part arg) s = .next (at_ (fun t => { t with epoch := arg }) 5).deadBeat
      ∧ (let t := (at_ id 2).wake.spillWarned arg.toNat
         exec (.spillWarning part arg) s = .next (if t.frk.budget.any (fun b => b.window == 0) && t.sys.mode == .run
           then t.windowStart else t).deadBeat))
    ∧ (¬ mine → exec (.epoch part arg) s = .next s ∧ exec (.spillWarning part arg) s = .next s
      ∧ (arg = 0 → exec (.sync part arg) s = .next s ∧ exec (.tstreamRunStart part arg) s = .next s
        ∧ exec (.spillEnd part arg) s = .next s ∧ exec (.beatReset part arg) s = .next s))
    ∧ (s.tim.present = false → ∀ c ∈ [Instr.sync part arg, .tstreamRunStart part arg, .spillWarning part arg, .spillEnd part arg,
        .beatReset part arg, .epoch part arg], exec c s = .next s)
    ∧ (s.tim.present = true → arg ≠ 0 → ∀ c ∈ [Instr.sync part arg, .tstreamRunStart part arg, .spillEnd part arg, .beatReset part arg],
        exec c s = .next (s.count bTIM 2 1))
    ∧ (∀ f : BitVec 28, f.getLsbD 27 = false → exec (.discardedTstreamFrame f) s = .next (
        if s.tim.present = true ∧ (crc6 (fld f 7 20) 20 ≠ fld f 1 6 ∨ f.getLsbD 0 = false ∨ 6 ≤ fld f 23 4
          ∨ (fld f 23 4 ≠ 2 ∧ fld f 23 4 ≠ 5 ∧ fld f 7 8 ≠ 0)) then s.count bTIM 2 1 else s))

/-- R357, R360: what a transmitter sends in any of the three codings a receiver in the same coding state reads back: an
ordered set gives its content with no invalid symbol, and a word gives its data, all of it data (but for a raw word that is
the alignment word). Both ends then stand in the same coding state again. -/
def Obligations.LineCodesRoundTrip : Prop :=
  ∀ (c : Coder) (code : Nat), code < 3 →
    (∀ content : BitVec 32, let p := c.send (orderedPiece code content)
      let r := c.takeSet code p.1
      r.1 = some content ∧ r.2.1.all (!·) = true ∧ r.2.2 = p.2)
    ∧ (∀ d : BitVec 64, let p := c.send (dataPiece code d)
      let r := c.take code p.1
      r.1.data = (if code = 1 then d else (d.setWidth 32).setWidth 64) ∧ r.1.marks.all (!·) = true ∧ r.2 = p.2
      ∧ (r.1.isData = true ↔ code < 2 ∨ d.setWidth 32 ≠ (0x7E5AA57E : BitVec 32)))

/-- R362, R365 to R370, R372, R373: a lane's training. In ACQUIRE the receiver counts what alignment asks for, 16 commas, 64
valid headers in succession or 4 alignment words, those of ordered sets among them; with that, alignment goes to UP at HMAX 0
and else to HELLO. There two equal HELLO sets settle the lower version; a HELLO set goes out every 128 symbols and carries ACK
once the version is settled; after eight of those the lane goes UP, and a timeout takes it UP at version 0. An UP lane sends
an ALIVE set every 1,024 symbols with a rising number and the device's BUSY, TIMING_LOST and DEGRADED. R363, R365, R367, R374:
a HELLO or UP lane is lost with its cause and acquires anew on a loss of signal, of CDR lock or of its quad's PLL, and on an
ALIVE timeout once its version is agreed; a locked PLL starts its quad's enabled lanes. A DISABLED lane ignores its line. An
ordered set, its symbols judged, hands Tweed an invalid word and acts by its type, an unlisted one being counted; a word of a
64b/66b lane is descrambled and handed to Tweed with its validity, or takes the lane down when it is the sixteenth bad one of
64. -/
def Obligations.LanesTrainAndReceive : Prop :=
  (
    ∀ (s : State) (l : Fin 144),
      let x := s.lane l
      let up (t : State) (v : Nat) : State :=
        let u := (t.setStat l 18 2 v).laneMove l 3
        u.setLane l { u.lane l with symbols := 0 }
      let need := if s.laneCode l = 0 then 16 else if s.laneCode l = 1 then 64 else 4
      let starts (y : Lane) (c : BitVec 32) : State :=
        let t := s.setLane l y
        t.setLane l { t.lane l with
          out := (orderedPiece (s.laneCode l) c).symbols ++ (t.lane l).out, sent := c, symbols := 0 }
      (s.laneState l = 1 → x.good < need → exec (.symbolAlignment l) s = .next s)
      ∧ (s.laneState l = 1 → need ≤ x.good →
          let t := s.setLane l { Lane.reset with rx := x.rx, tx := x.tx, line := x.line, since := x.since }
          exec (.symbolAlignment l) s = .next (if s.laneHmax l = 0 then up t 0 else t.laneMove l 2))
      ∧ (s.laneState l = 1 → s.laneCode l = 1 → (s.laneReg 0 l).getLsbD 17 = false → ∀ (d : BitVec 64) (h : BitVec 2),
          ∃ y, exec (.laneWord l d h) s = .next (s.setLane l y) ∧ y.good = if h = 1 ∨ h = 2 then x.good + 1 else 0)
      ∧ (s.laneState l = 1 → (s.laneReg 0 l).getLsbD 17 = false → ∀ (b : BitVec 66) w e ph,
          ∃ y, exec (.orderedSet l b w e ph) s = .next (s.setLane l y)
            ∧ (s.laneCode l = 0 → y.good = x.good + commasIn (ungroups 5 b x.rx.rd).1)
            ∧ (s.laneCode l = 1 → y.good = if b.extractLsb' 0 2 = 1 ∨ b.extractLsb' 0 2 = 2 then x.good + 1 else 0))
      ∧ (s.laneState l = 2 → ∀ c : BitVec 24, x.settled = none → x.hello = some c →
          let v := min (s.laneHmax l) (fld c 22 2)
          s.hello l c = ((s.setReg (lqBlk l) (0x00C + l % 4) (BitVec.ofNat 24 (fld c 22 2 * 2 ^ 22 + fld c 20 1 * 2 ^ 21
            + fld c 0 16))).setStat l 18 2 v).setLane l { x with settled := some v, acks := 0 })
      ∧ (s.laneState l = 2 → 128 ≤ x.symbols → x.acks < 8 → ∃ c : BitVec 32, exec (.helloTransmit l) s = .next (starts { x with
            acks := if x.settled.isSome then x.acks + 1 else x.acks } c)
          ∧ fld c 24 8 = 2 ∧ c.getLsbD 21 = x.settled.isSome ∧ fld c 8 8 = s.rfld bTIM 0 0 8 ∧ fld c 0 8 = l)
      ∧ (s.laneState l ≠ 2 ∨ x.symbols < 128 ∨ 8 ≤ x.acks → exec (.helloTransmit l) s = .next s)
      ∧ (s.laneState l = 2 → ∀ v, x.settled = some v → 8 ≤ x.acks → x.out = [] → exec (.laneUp l) s = .next (up s v))
      ∧ (s.laneState l ≠ 2 ∨ x.settled = none ∨ x.acks < 8 ∨ x.out ≠ [] → exec (.laneUp l) s = .next s)
      ∧ (s.laneState l = 2 → x.settled = none → exec (.helloTimeout l) s = .next (up s 0))
      ∧ (s.laneState l = 3 → 1024 ≤ x.symbols → ∃ c : BitVec 32, exec (.aliveTransmit l) s = .next (starts { x with
            aliveSeq := x.aliveSeq + 1 } c)
          ∧ fld c 24 8 = 1 ∧ fld c 16 8 = x.aliveSeq.toNat ∧ c.getLsbD 10 = s.degraded ∧ c.getLsbD 9 = s.seq.tl
          ∧ c.getLsbD 8 = s.busy)
      ∧ (s.laneState l ≠ 3 ∨ x.symbols < 1024 → exec (.aliveTransmit l) s = .next s))
  ∧ (
    ∀ (s : State) (l : Fin 144),
      let x := s.lane l
      let lost (t : State) (c : Nat) : State := (t.setRfld (lqBlk l) (8 + l % 4) 15 3 c).laneRestart l true
      let seen (b : BitVec 66) : BitVec 66 := polarity ((s.laneReg 0 l).getLsbD 17) b
      (2 ≤ s.laneState l → exec (.lossOfSignal l) s = .next (lost s 1) ∧ exec (.cdrLossOfLock l) s = .next (lost s 2)
        ∧ (s.laneVer l ≠ 0 → exec (.aliveTimeout l) s = .next (lost s 4)))
      ∧ (s.laneState l = 0 → ∀ d h, exec (.laneWord l d h) s = .next s)
      ∧ (s.laneState l = 0 → ∀ b w e ph, exec (.orderedSet l b w e ph) s = .next s)
      ∧ (2 ≤ s.laneState l → ∀ (b : BitVec 66) (w e : Bool) (ph : BitVec 14),
          let r := x.rx.takeSet (s.laneCode l) (seen b)
          let t := (s.setLane l { x with rx := r.2.2 }).symbolsSeen l r.2.1 (if s.laneCode l = 2 then [r.1.isSome, false] else []) 0
          let u := t.drawn.hand l (t.freeBits 64) false
          (t.laneState l < 2 → exec (.orderedSet l b w e ph) s = .next t)
          ∧ (2 ≤ t.laneState l → (r.1 = none → exec (.orderedSet l b w e ph) s = .next u)
            ∧ ∀ c : BitVec 32, r.1 = some c →
              (fld c 24 8 = 1 → exec (.orderedSet l b w e ph) s = .next u)
              ∧ (fld c 24 8 = 2 → exec (.orderedSet l b w e ph) s = .next (u.hello l (c.extractLsb' 0 24)))
              ∧ (fld c 24 8 = 3 → exec (.orderedSet l b w e ph) s = .next (u.laneBeat l w e ph))
              ∧ ((fld c 24 8 = 0 ∨ 4 ≤ fld c 24 8) →
                exec (.orderedSet l b w e ph) s = .next (u.count (lqBlk l) (0x010 + l % 4) 1))))
      ∧ (2 ≤ s.laneState l → s.laneCode l = 1 → ∀ (d : BitVec 64) (h : BitVec 2),
          let b := seen (d ++ h)
          let head := b.extractLsb' 0 2
          let bad : Bool := head != 1 && head != 2
          let r := descramble x.rx.scr (b.extractLsb' 2 64)
          let recent := (bad :: x.recent).take 80
          let t := (s.setLane l { x with rx := { x.rx with scr := r.2 }, recent := recent }).count (lqBlk l) (0x010 + l % 4) bad.toNat
          exec (.laneWord l d h) s = .next (if 16 ≤ badIn 64 recent then lost t 3 else t.hand l r.1 (head == 2)))
      ∧ (∀ q : Fin 36, exec (.quadPllLossOfLock q) s = .next ((List.range 4).foldl (fun t i =>
            if t.laneState (4 * q + i) < 2 then t else (t.setStat (4 * q + i) 15 3 6).laneRestart (4 * q + i) true)
            (s.setRfld (bLQ + q) 0 0 1 0))
          ∧ (s.domainUp (272 + q) = true → exec (.quadPllLock q) s = .next ((List.range 4).foldl (fun t i =>
            if t.laneState (4 * q + i) = 0 ∧ t.laneEn (4 * q + i) then t.laneRestart (4 * q + i) true else t)
            (s.setRfld (bLQ + q) 0 0 1 1)))))

/-- R391 to R399, R70, R78, R439, R560, R592 to R595, R712: an ingest port of a running region with a design of its own takes
a record whose reserved bits are 0 and whose tile queues have room, counts a malformed one, and holds one that lacks room,
each port cycle of the wait counting; payloads of one array cycle queue in ascending order of port. PAYLOAD_WRITE discards the
oldest payload of its tile for its age; else it writes, of those that leave in the array cycle, the first in port and slot,
unless the cycle has taken its 128 bits. EGRESS_DRAIN takes up to eight pending PEs. CAPTURE_PACKET puts a column's records
into its mailbag's ring, or counts them as dropped where the network bounces its packet. -/
def Obligations.IngestAndEgress : Prop :=
  ∀ s : State,
    (∀ (n : Fin 32) (r : BitVec 256), s.delivers (n / 2) = true → (∀ e ∈ s.dn.waiting, e.1 ≠ n) →
      (fld r 56 8 ≠ 0 → exec (.ingestRecord n r) s = .next (s.count bDN 0x015 1))
      ∧ (fld r 56 8 = 0 → s.roomFor (s.slots n r) = true → exec (.ingestRecord n r) s = .next ((s.slots n r).foldl State.takeSlot s))
      ∧ (fld r 56 8 = 0 → s.roomFor (s.slots n r) = false → exec (.ingestRecord n r) s =
        .next (({ s with dn := { s.dn with waiting := s.dn.waiting ++ [(n.val, r)] } } : State).count bDN (0x020 + n) 1)))
    ∧ (∀ (n : Fin 32) (r : BitVec 256), s.rstate (n / 2) ≠ 3 ∨ s.tw.golden.getLsbD (n / 2) = true →
      exec (.ingestRecord n r) s = .next s ∧ exec (.stalledRecordAccept n) s = .next s)
    ∧ (∀ (n : Fin 32) (r : BitVec 256), s.dn.waiting = [(n.val, r)] → s.delivers (n / 2) = true →
      (s.roomFor (s.slots n r) = false → exec (.stalledRecordAccept n) s = .next (s.count bDN (0x020 + n) 1))
      ∧ (s.roomFor (s.slots n r) = true →
        let t := (s.slots n r).foldl State.takeSlot s
        exec (.stalledRecordAccept n) s = .next { t with dn := { t.dn with waiting := t.dn.waiting.filter (fun e => e.1 != n) } }))
    ∧ (∀ y z : Payload, queuePayload y [z] = if z.at_ = y.at_ ∧ y.port < z.port then [y, z] else [z, y])
    ∧ (∀ (n : Fin 256) (y : Payload) (rest : List Payload), s.tileQueue n = y :: rest →
      let age (z : Payload) : Nat := (s.tim.beat.extractLsb' 0 16 - z.pmref).toNat
      let late := s.rfld bDN 0 0 16
      let kept (ys : List Payload) : State := { s with dn := { s.dn with queues := sput [] s.dn.queues n ys } }
      (32768 ≤ age y → exec (.payloadWrite n) s = .next ((kept rest).count bDN 0x013 1))
      ∧ (age y < 32768 → late ≠ 0 → late < age y → exec (.payloadWrite n) s = .next ((kept rest).count bDN 0x012 1))
      ∧ (age y < 32768 → (late = 0 ∨ age y ≤ late) →
        (128 - s.wroteNow n < y.width → exec (.payloadWrite n) s = .next s)
        ∧ (y.width ≤ 128 - s.wroteNow n → ∃ z ∈ s.leaving (128 - s.wroteNow n) (y :: rest),
          let at_ : State := { kept ((y :: rest).erase z) with dn := { (kept ((y :: rest).erase z)).dn with
            wrote := sput (0, 0, 0) s.dn.wrote n (s.wroteNow n + z.width, s.arrayTime) } }
          z ∈ y :: rest ∧ z.width ≤ 128 - s.wroteNow n
          ∧ (∀ z' ∈ s.leaving (128 - s.wroteNow n) (y :: rest), z.port < z'.port ∨ (z.port = z'.port ∧ z.slot ≤ z'.slot))
          ∧ (∀ p, physTile s.cv.failed n = some p → exec (.payloadWrite n) s = .next (if s.cv.power.getLsbD p
            then at_.stage p (peAt p (z.pe / 64) (z.pe % 64)) z else at_)))))
    ∧ (∀ n : Fin 256, s.tileQueue n = [] → exec (.payloadWrite n) s = .next s)
    ∧ (∀ n : Fin 272, exec (.egressDrain n) s = .next (((s.drainOrder n).take 8).foldl (fun t i =>
        (t.egressEntry n i).mapCv (fun c => { c with pending := setBit c.pending i false })) s))
    ∧ (∀ (n : Fin 16) (k : Nat), s.mailbagOf n = some k → sget [] s.mem.egress n ≠ [] →
      let rs := (sget [] s.mem.egress n).take (s.packetRoom k)
      let len := 1 + (rs.length + 1) / 2
      let x := s.captureTransfer n k rs.length
      let t := (s.spend n 2 len).mapMem (fun m => { m with egress := sput [] m.egress n ((sget [] m.egress n).drop rs.length) })
      (1 ≤ rs.length ∧ rs.length ≤ 32 ∧ (s.packetRoom k + (s.reg bMBG (0x020 + k)).toNat % (s.ringOf k).2) % 32 = 0
        ∧ x.dst = dramNi x.addr ∧ x.n = 16 * rs.length)
      ∧ (s.mayInject n 2 len = true → s.routed = true → s.captureLost x = none → s.wayHeld n x.dst = false →
        exec (.capturePacket n) s = .next (((rs.foldl (fun t r => t.mailbagPut k r.2) t).mailbagFill k).sent x))
      ∧ (s.mayInject n 2 len = true → s.routed = true → ∀ st, s.captureLost x = some st → ∃ (q j : Nat) (h : BitVec 256),
        hKind h = 1 ∧ exec (.capturePacket n) s = .next (((rs.foldl (fun t r => t.count (bTCC + n) (0x060 + r.1) 1) t).drawn.passAlong
          (routerOf n) (s.pathTo n x.dst) j h).bounce q h st)))

/-- R9, R13, R604, R627, R645, R747: a register write by a session answers BAD_PARAMETER where no register stands, DENIED at a
register of a secure holder to a session that is not secure, and BUSY while its holder is being cleared; past these checks a
register of a tile-column controller, of the distribution network, the DRAM control, reset, clock or power block takes the
value in its RW bits and clears the W1C bits written 1, and its other bits keep; where a hardware update reaches a field in
the same clock, the update stands. Of BAR0, a doubleword with partial byte enables is ignored, HOST_ERR is cleared by any
write and the other registers of the writer's port follow their codes. R371, R372, R378: LQ_PLL and LQ_CFG are written in
CONFIGURE and MAINTENANCE only, by a session that reaches the quad's world, with values that the PLL and the lanes' codes
allow; a changed LQ_PLL unlocks the PLL and starts its four lanes anew, a changed LQ_CFG_l its lane, and an unchanged value
changes nothing. R411, R443, R444, R570: a queue register of a critical region answers WRONG_MODE in ARMED and RUN; a queue
that is enabled takes no other configuration and an enabled configuration must fit its block; a disabled queue is emptied.
NOC_NICTL and NOC_RATE of the NIs from 102 are DENIED, a BURST below 17 is BAD_PARAMETER, and the others take the value. -/
def Obligations.RegisterWritesFollowCodes : Prop :=
  (
    ∀ (s : State) (u : Who) (blk : BitVec 12) (off : Word) (w : WriteData),
      let b := blk.toNat
      let o := off.toNat
      let target : Prop := blockListed b = true ∧ ¬ (b = bRST ∧ o = 0)
      let field (r : RegSpec) (i : Nat) : Prop := ∃ j < 24, w.hit.getLsbD j = true
        ∧ ∀ k < 24, min i j ≤ k → k ≤ max i j → r.rw.testBit k = true
      let bits (r : RegSpec) (old x : Word) : Prop := ∀ i < 24,
        (r.rw.testBit i = true → field r i → x.getLsbD i = old.getLsbD i)
        ∧ (r.rw.testBit i = true → ¬ field r i → x.getLsbD i = w.value.getLsbD i)
        ∧ (r.rw.testBit i = false → x.getLsbD i = (old.getLsbD i && !(r.w1c.testBit i && w.value.getLsbD i && !w.hit.getLsbD i)))
      (target → regSpec b o = none → exec (.registerWrite u blk off w) s = .next (s.say .badParameter))
      ∧ (target → ∀ r, regSpec b o = some r →
        (s.holderSecure r.holder = true → s.sessionSecure (.ring u.port) u.sess.toNat = false →
          exec (.registerWrite u blk off w) s = .next (s.say .denied))
        ∧ ((s.holderSecure r.holder = false ∨ s.sessionSecure (.ring u.port) u.sess.toNat = true) →
          (s.holderBusy r.holder = true → exec (.registerWrite u blk off w) s = .next (s.say .busy))
          ∧ (s.holderBusy r.holder = false → (0x010 ≤ b ∧ b ≤ 0x01F ∨ b = 0x026 ∨ b = 0x029 ∨ 0x080 ≤ b) →
            ∃ x, exec (.registerWrite u blk off w) s = .next ((s.setReg b o x).say .ok) ∧ bits r (s.reg b o) x)
          ∧ (s.holderBusy r.holder = false → 0x020 ≤ b ∧ b ≤ 0x023 → exec (.registerWrite u blk off w) s = .next (s.say .denied))))
      ∧ (¬ target → w.be ≠ 0xF → exec (.registerWrite u blk off w) s = .next s)
      ∧ (s.awake u.port = true → w.be = 0xF →
        (b = mbx u.port → o = 0x04C → w.hit = 0 → exec (.registerWrite u blk off w) s = .next (s.setReg b o 0).wake)
        ∧ (∀ r, regSpec b o = some r → (b = mbx u.port ∧ o ≠ 0x04C ∨ b = dbl u.port) →
          ∃ x, exec (.registerWrite u blk off w) s = .next (s.setReg b o x).wake ∧ bits r (s.reg b o) x)
        ∧ (b = mbx (portOther u.port) → exec (.registerWrite u blk off w) s = .next s.wake)))
  ∧ (
    ∀ (s : State) (u : Who) (w : Word) (q : Fin 36) (k : Fin 4) (l : Fin 144),
      l.val = 4 * q + k → (s.holderSecure (.quad q) = false ∨ s.sessionSecure (.ring u.port) u.sess.toNat = true) →
      let pll := exec (.lqPllWrite u q w) s
      let cfg := exec (.lqCfgWrite u l w) s
      let t := s.regApply (bLQ + q) 0 w
      let c := s.regApply (bLQ + q) (4 + k) w
      let allowed (v : State) : Bool := pllFits (v.reg (bLQ + q) 0) s.frk.beatHz (v.quadCodes q)
      ((s.sys.mode ≠ .configure ∧ s.sys.mode ≠ .maintenance) → pll = .next (s.say .wrongMode) ∧ cfg = .next (s.say .wrongMode))
      ∧ ((s.sys.mode = .configure ∨ s.sys.mode = .maintenance) →
        (allowed t = false → pll = .next (s.say .badParameter))
        ∧ (allowed t = true → t.reg (bLQ + q) 0 = s.reg (bLQ + q) 0 → pll = .next (s.say .ok))
        ∧ (allowed t = true → t.reg (bLQ + q) 0 ≠ s.reg (bLQ + q) 0 → pll = .next (((List.range 4).foldl (fun v i =>
            v.laneRestart (4 * q + i) (v.domainUp (272 + q))) (t.setRfld (bLQ + q) 0 0 1 0)).say .ok))
        ∧ ((c.laneCode l = 3 ∨ c.laneHmax l = 3 ∨ allowed c = false) → cfg = .next (s.say .badParameter))
        ∧ (c.laneCode l ≠ 3 → c.laneHmax l ≠ 3 → allowed c = true →
          cfg = .next ((if c.reg (bLQ + q) (4 + k) = s.reg (bLQ + q) (4 + k) then s
            else c.repower.laneRestart l (c.repower.domainUp (272 + q))).say .ok))))
  ∧ (
    ∀ (s : State) (u : Who) (w : Word), s.sessionSecure (.ring u.port) u.sess.toNat = true →
      (∀ (n : Fin 16384), s.clearing (clearRegion (n / 1024)) = false →
        let r := n.val / 1024
        let q := n.val % 1024
        let barred : Bool := s.critical r && (s.sys.mode == .armed || s.sys.mode == .run)
        (barred = true → ∀ thr, exec (.twqCfgWrite u n thr w) s = .next (s.say .wrongMode))
        ∧ (barred = false →
          exec (.twqCfgWrite u n true w) s = .next ((s.regApply (bTWQ + r) (4 * q + 1) w).say .ok)
          ∧ ((s.queueCfg r q).getLsbD 23 = true → fld (s.queueCfg r q) 0 23 ≠ fld w 0 23 →
            exec (.twqCfgWrite u n false w) s = .next (s.say .busy))
          ∧ (((s.queueCfg r q).getLsbD 23 = false ∨ fld (s.queueCfg r q) 0 23 = fld w 0 23) →
            (w.getLsbD 23 = false → exec (.twqCfgWrite u n false w) s = .next (((s.regApply (bTWQ + r) (4 * q) w).flushQueue r q).say .ok))
            ∧ (w.getLsbD 23 = true → fld w 21 2 ≠ 3 → s.queueFits r q w = true →
              exec (.twqCfgWrite u n false w) s = .next ((s.regApply (bTWQ + r) (4 * q) w).say .ok))
            ∧ (w.getLsbD 23 = true → (fld w 21 2 = 3 ∨ s.queueFits r q w = false) →
              exec (.twqCfgWrite u n false w) s = .next (s.say .badParameter)))))
      ∧ (∀ (n : Fin 111) (c : Fin 4),
        (102 ≤ n.val → exec (.nocNictlWrite u n w) s = .next (s.say .denied) ∧ exec (.nocRateWrite u n c w) s = .next (s.say .denied))
        ∧ (n.val < 102 → exec (.nocNictlWrite u n w) s = .next ((s.regApply bNOC (0x100 + n) w).say .ok)
          ∧ (c.val = 0 → exec (.nocRateWrite u n c w) s = .next (s.say .denied))
          ∧ (c.val ≠ 0 → fld w 0 10 < 17 → exec (.nocRateWrite u n c w) s = .next (s.say .badParameter))
          ∧ (c.val ≠ 0 → 17 ≤ fld w 0 10 → exec (.nocRateWrite u n c w) s = .next ((s.regApply bNOC (0x400 + 4 * n + c) w).say .ok)))))

/-- R586, R587, R608, R646: a secure session, the firmware of the service cores and the security block, or the bank's owner
asks for a handover, which OWNER_HANDOVER carries out once no access of the old owner is under way: the bank's owner and RDALL
become the ones asked for, and no bank keeps an owner whose world cannot reach it. Anyone else is DENIED, and so are banks 0
and 1; a bank under a wipe or a clearing answers BUSY, and a code that is not listed, a probe's or one that cannot reach the
bank's world BAD_PARAMETER. R644 to R647: SEC_WORLD and the world registers take a secure session's write in STANDBY,
CONFIGURE and MAINTENANCE: LOCK sets and stays, and locked world registers ignore writes; else the value is taken when the
DRAM regions and quads stay consistent, what goes from secure to non-secure is cleared, and owners that no longer reach their
bank lose it; WORLD_CLEAR_COMPLETE ends the clearings. -/
def Obligations.OwnersAndWorldsChange : Prop :=
  (
    ∀ (s : State) (n : Fin 64) (w : Word),
      (∀ u : OwnWriter,
        let own := fld w 0 8
        let good : Bool := ownerListed own && decide (own < 0x30) && s.ownerReaches own (s.bankWorld n)
        let r := exec (.phOwnWrite u n w) s
        let may : Prop := match u with
          | .session u => s.sessionSecure (.ring u.port) u.sess.toNat = true
          | .firmware => True
          | .owner c => c ≠ 0 ∧ s.owner n = c.toNat
        let mayNot : Prop := match u with
          | .session u => s.sessionSecure (.ring u.port) u.sess.toNat = false ∧ s.bankWorld n = false ∧ s.owner n ≠ ownHost u.port
          | .firmware => False
          | .owner c => c = 0 ∨ s.owner n ≠ c.toNat
        ((mayNot ∨ n.val < 2 ∧ may) → s.clearing (clearBank n) = false → r = .next (s.say .denied))
        ∧ (may → 2 ≤ n.val → (s.wiping n = true ∨ s.clearing (clearBank n) = true) → r = .next (s.say .busy))
        ∧ (may → 2 ≤ n.val → s.wiping n = false → s.clearing (clearBank n) = false →
          (good = false → r = .next (s.say .badParameter))
          ∧ (good = true → r = .next ((s.mapMem (fun m => { m with
            handover := m.handover ++ [(n.val, own, w.getLsbD 21)] })).say .ok))))
      ∧ (∀ own rdall, s.mem.handover.find? (fun e => e.1 == n.val) = some (n.val, own, rdall) → own < 256 →
        (s.ownerBusy n = true → exec (.ownerHandover n) s = .next s)
        ∧ (s.ownerBusy n = false → ∃ t, exec (.ownerHandover n) s = .next t ∧ t.rfld bPH (0x100 + n) 21 1 = rdall.toNat
          ∧ (∀ b < 64, let asked := if b = n.val then own else s.owner b
            t.owner b = if s.ownerReaches asked (s.bankWorld b) then asked else 0) ∧ (∀ b c, t.cont b c = s.cont b c)))
      ∧ (s.mem.handover.find? (fun e => e.1 == n.val) = none → exec (.ownerHandover n) s = .next s))
  ∧ (
    ∀ (s : State) (u : Who) (off w : Word), (regSpec bSEC off.toNat).isSome = true →
      let o := off.toNat
      let r := exec (.secWorldWrite u off w) s
      let t := s.regApply bSEC o w
      let moved : Bool := 0x040 ≤ o && (s.holder 7 ((o - 0x040) / 2)).isSome
        && (setFld (t.reg bSEC o) 23 1 0 != setFld (s.reg bSEC o) 23 1 0)
      (s.sessionSecure (.ring u.port) u.sess.toNat = false → r = .next (s.say .denied))
      ∧ (s.sessionSecure (.ring u.port) u.sess.toNat = true → s.sys.mode ∈ [Mode.sleep, .armed, .run] → r = .next (s.say .wrongMode))
      ∧ (s.sessionSecure (.ring u.port) u.sess.toNat = true → s.sys.mode ∈ [Mode.standby, .configure, .maintenance] →
        (o = 0 → r = .next ((if w.getLsbD 23 then s.setRfld bSEC 0 23 1 1 else s).say .ok))
        ∧ (isWorldReg o = true → (s.reg bSEC 0).getLsbD 23 = true → r = .next (s.say .ok))
        ∧ (isWorldReg o = true → (s.reg bSEC 0).getLsbD 23 = false →
          (((o = 0x020 ∧ fld w 0 2 ≠ 0) ∨ t.regionsOk = false ∨ t.quadsOk = false) → r = .next (s.say .badParameter))
          ∧ ((o ≠ 0x020 ∨ fld w 0 2 = 0) → t.regionsOk = true → t.quadsOk = true →
            (moved = true → r = .next (s.say .resourceClaimed))
            ∧ (moved = false → r = .next ((((s.losesWorld t).foldl State.clearHolder t).fixOwners).say .ok)))))
      ∧ (s.sys.clears.all (fun e => e.2.isNone) = true →
        exec .worldClearComplete s = .next (s.mapSys (fun y => { y with clears := [] }))))

/-- R632, R641, R747: REG_READ answers each register of a span with its value or the status of its part, under the world of
the request's session; REG_WRITE answers each part's status, at once unless a write has started a clearing, for which the
reply waits. The diagnostic window of a port in MAINTENANCE is a REG_READ or REG_WRITE of session 0 at the block of HOST_DIAG;
in another mode a read gives 0 and a write changes nothing, as a write with partial byte enables does (R604). R440 to R442: a
packet on the fallback SPI target or UART, while region 15 leaves the port its pins, is carried out by the request it holds,
and its reply is returned on that port; a request of any other opcode, listed or not, is answered DENIED, and while region 15
is ACTIVE nothing is received. Without firmware every opcode but HELLO and GET_INFO is answered WRONG_MODE (R664). -/
def Obligations.RegisterCommandsAndFallbackPorts : Prop :=
  (
    (∀ (s t u : State) (p : Port) (q : Request) (l : List (Status × Word)), q.op = 0x7E → s.interprets (.ring p) = true →
        s.takePacket p q = (true, t) →
        t.check (.ring p) q (plainDemand 1 (regBlock q.block && q.len == 2 && decide (1 ≤ q.arg 1) && decide (q.arg 1 ≤ 256))) = (.ok, 0) →
        t.readRegs (t.sessionSecure (.ring p) q.sess) q.block (q.arg 0) (q.arg 1) = (l, u) →
        exec (.regRead p q) s = .next (u.answerTo (.ring p) q (partsStatus (numbered (l.map (·.1)))).1
          (partsStatus (numbered (l.map (·.1)))).2 (partsPayload (q.w0.setWidth 24) (numbered (l.map (·.1))) (l.map (·.2)))))
    ∧ (∀ (s t u : State) (p : Port) (q : Request) (l : List Status), q.op = 0x7F → s.interprets (.ring p) = true →
        s.takePacket p q = (true, t) →
        t.check (.ring p) q (plainDemand 1 (regBlock q.block && q.len == 2 + q.arg 1 && decide (1 ≤ q.arg 1)
          && decide (q.arg 1 ≤ 256))) = (.ok, 0) →
        t.writeRegs (.ring p) q.sess q.block (q.arg 0) (q.words.drop 2) q.hits = (l, u) →
        (u.sys.clears.length ≤ t.sys.clears.length →
          exec (.regWrite p q) s = .next (u.answerTo (.ring p) q (partsStatus (numbered l)).1 (t.writeDetail (.ring p) q (numbered l))
            (partsPayload (q.w0.setWidth 24) (numbered l) [])))
        ∧ (t.sys.clears.length < u.sys.clears.length →
          let j := jobOf q (.ring p) (l.map (·.code))
          exec (.regWrite p q) s = .next ((u.begin j).mapSys (fun y => { y with clears := y.clears ++ [(clearReply, some j)] }))))
    ∧ (∀ (s : State) (p : Port) (n : BitVec 14) (w : WriteData), s.awake p = true →
        let blk := s.rfld (mbx p) 0x048 0 12
        let shows (t : State) (v : Word) : State := t.mapPort p (fun h => { h with
          completion := [v.setWidth 32], poisoned := false, unsupported := false })
        (w.be ≠ 0xF → exec (.diagWindowAccess p true n w) s = .next s)
        ∧ (s.sys.mode ≠ .maintenance → (w.be = 0xF → exec (.diagWindowAccess p true n w) s = .next s.wake)
          ∧ exec (.diagWindowAccess p false n w) s = .next (shows s 0).wake)
        ∧ (s.sys.mode = .maintenance → regBlock blk = true →
          (∀ st t, w.be = 0xF → s.writeReg (.ring p) 0 blk n.toNat ((s.outrun blk n.toNat w.value w.hit).setWidth 24) = (st, t) →
            exec (.diagWindowAccess p true n w) s = .next (t.say st).wake)
          ∧ (∀ st v t, s.readReg false blk n.toNat = (st, v, t) → exec (.diagWindowAccess p false n w) s = .next ((shows t v).say st).wake))))
  ∧ (
    ∀ (s : State) (q : Request),
      let both (t : Via → State) : Prop := exec (.spiPacket q) s = .next (t .spi) ∧ exec (.uartPacket q) s = .next (t .uart)
      (s.rstate 15 = 3 → both (fun _ => s))
      ∧ (s.rstate 15 ≠ 3 → s.sys.boot = .failed → (q.op = 0x01 → both (fun v => s.helloCmd v q)) ∧ (q.op = 0x02 → both (fun v => s.getInfo v q))
        ∧ (q.op ≠ 0x01 → q.op ≠ 0x02 → s.interprets .spi = true → s.interprets .uart = true → both (fun v => s.refuse v q .wrongMode 0)))
      ∧ (s.rstate 15 ≠ 3 → s.sys.boot = .done →
        (q.op = 0x01 → both (fun v => s.helloCmd v q)) ∧ (q.op = 0x02 → both (fun v => s.getInfo v q))
        ∧ (q.op = 0x7E → both (fun v => s.regRead v q)) ∧ (q.op = 0x71 → both (fun v => s.selftestCmd v q))
        ∧ (q.op = 0x70 → q.arg 0 = 0 → both (fun v => s.resetCoreCmd v q))
        ∧ (q.op = 0x70 → q.arg 0 = 1 → both (fun v => s.resetSystemCmd v q))
        ∧ (q.op = 0x70 → q.arg 0 ≠ 0 → q.arg 0 ≠ 1 → both (fun v => s.resetBlockCmd v q))
        ∧ (q.op ∉ [0x01, 0x02, 0x7E, 0x70, 0x71] → q.len ≤ q.payload.length →
          (∀ c ∈ [q.w0, q.w1, q.w2, q.w3] ++ q.conts, fld c 24 8 = 0) → crc24 q.words = q.w3.setWidth 24 →
          s.interprets .spi = true → s.interprets .uart = true → s.follows .spi q = false → s.follows .uart q = false → both (fun v => s.refuse v q .denied 0))))

/-- R412 to R415, R266, R684: a push and a pop of an enabled queue of an ACTIVE region whose clocks run act on its state at
the start of the cycle: a full queue drops the pushed entry, or its oldest one under policy 2, and counts it; a pop of an
empty queue gives 0 and not valid. A disabled queue keeps its state, and so does one whose user PLLs have lost lock. A user
interrupt raises line 8, a claimed timer line 6, and the user PLLs' lock bits follow them. -/
def Obligations.QueuesPushAndPop : Prop :=
  ∀ (s : State) (n : Fin 16384) (d : BitVec 72),
    let r := n.val / 1024
    let cfg := s.queueCfg r (n % 1024)
    let l := sget [] s.tw.queues n.val
    let e := s.entryBits r (n % 1024) d
    let full := queueDepth cfg ≤ l.length
    let old := fld cfg 21 2 = 2
    let give (t : State) (l' : List (BitVec 72)) : State := t.mapTw (fun w => { w with queues := sput [] w.queues n.val l' })
    let head : BitVec 72 × Bool := match l with | x :: _ => (x, true) | [] => (0, false)
    let out (t : State) : State := t.mapTw (fun w => { w with popped := sput (0, false) w.popped n.val head })
    let dropped (t : State) : State := t.count (bTWQ + r) (4 * (n % 1024) + 3) 1
    ((s.rstate r = 3 → (s.reg bCLK 0).extractLsb' 12 8 = 0xFF#8 → s.runs r = true)
      ∧ (s.rstate r ≠ 3 → s.runs r = false))
    ∧ ((s.runs r = false ∨ cfg.getLsbD 23 = false) → exec (.queuePop n) s = .next s ∧ ∀ pop, exec (.queuePush n d pop) s = .next s)
    ∧ (s.runs r = true → cfg.getLsbD 23 = true →
      exec (.queuePop n) s = .next (out (give s (l.drop 1)))
      ∧ (¬ full → exec (.queuePush n d false) s = .next (give s (l ++ [e])) ∧
          exec (.queuePush n d true) s = .next (out (give s (l.drop 1 ++ [e]))))
      ∧ (full → ¬ old → exec (.queuePush n d false) s = .next (dropped (give s l))
          ∧ exec (.queuePush n d true) s = .next (dropped (out (give s (l.drop 1)))))
      ∧ (full → old → exec (.queuePush n d false) s = .next (dropped (give s (l.drop 1 ++ [e])))
          ∧ exec (.queuePush n d true) s = .next (out (give s (l.drop 1 ++ [e])))))
    ∧ ((∃ k < 16, s.runs k = true) → exec .tweedUserInterrupt s = .next (s.raiseLine 8))
    ∧ ((∀ k < 16, s.runs k = false) → exec .tweedUserInterrupt s = .next s)
    ∧ (∀ k : Fin 8, exec (.generalTimerExpiry k) s = .next (if (s.holder 5 k).isSome then s.raiseLine 6 else s)
      ∧ exec (.tweedPllLossOfLock k) s = .next (s.setRfld bCLK 0 (12 + k) 1 0)
      ∧ exec (.tweedPllLock k) s = .next (s.setRfld bCLK 0 (12 + k) 1 1))

/-- R426 to R429: a frame of a load that passes its checks is written, and after the last, when the whole image passes, the
load awaits its release; a frame that fails ends the load, its regions go to BLANK, and the COMMIT reports the failure where
no previous image is retained; REGION_RELEASE takes the regions of a passed load to ACTIVE. R402, R409, R410, R413, R415,
R422, R442, R736: a multiplier gives the 48-bit product of two 24-bit operands two clocks after them, alone or added to its
accumulator; a RAM block gives back the word written at an address and keeps the others; a queue's push is ready while its
region is ACTIVE, the queue enabled and, under BACKPRESSURE, not full; the pins of a region that is not ACTIVE are pulled
down, and the fallback pins are then the serial ports', unless boundary scan holds them all (R736). -/
def Obligations.TweedLoads : Prop :=
  (
    ∀ (s : State) (l : TweedLoad), s.tw.load = some l →
      let r := (frameAddr l.image l.next).1
      let k := (frameAddr l.image l.next).2
      let st := frameCheck l.image l.next (Config.muxOk k (frameData l.image l.next))
      let w := if l.barred = some r then s else s.putFrame r k (frameData l.image l.next)
      let more := l.next + 1 < tweedFrames l.image
      (l.passed = false → st = .ok → more → exec .tweedFrame s =
        .next (w.mapTw (fun x => { x with load := some { l with next := l.next + 1 } })))
      ∧ (l.passed = false → st = .ok → ¬ more → tweedFinal s.otp l.image = .ok → exec .tweedFrame s =
        .next (w.mapTw (fun x => { x with load := some { l with next := l.next + 1, passed := true } })))
      ∧ (l.passed = false → st ≠ .ok → l.reload = false → s.tw.previous = none → s.sys.mode ≠ .standby → ∃ t : State,
        exec .tweedFrame s = .next (t.endCommit st 0) ∧ t.tw.load = none ∧ (∀ i ∈ l.regions, i < 16 → t.reg bTWC i = 1)
        ∧ t.reg bTWC 0x011 = BitVec.ofNat 24 k ∧ t.mem = s.mem ∧ t.seq = s.seq ∧ t.cv = s.cv)
      ∧ (l.passed = true → l.reload = false → (s.releaseLoad l).sys.commit = none → exec .regionRelease s =
          .next ((s.releaseLoad l).mapTw (fun x => { x with previous := some l.image }))
        ∧ (s.sys.mode ≠ .standby → ∀ i ∈ l.regions, i < 16 →
          ((s.releaseLoad l).reg bTWC i).toNat = 3 + (tweedNoncrit l.image i).toNat * 2 ^ 23))
      ∧ (l.passed = true → exec .tweedFrame s = .next s) ∧ (l.passed = false → exec .regionRelease s = .next s))
  ∧ (
    (∀ (m : Multiplier) (signed add signed2 add2 : Bool) (a b a2 b2 : BitVec 24),
      let p := product24 signed a b
      let m1 := m.clock signed add a b
      (signed = false → p.toNat = a.toNat * b.toNat) ∧ (signed = true → p.toInt = a.toInt * b.toInt)
      ∧ (m1.clock signed2 add2 a2 b2).out = (if add then m1.acc + p else p)
      ∧ (m1.clock signed2 add2 a2 b2).acc = if add then m1.acc + p else m1.acc)
    ∧ (∀ (mode : Nat) (c : BitVec 36864) (a a' : Nat) (d : BitVec 72), mode < 4 →
      let e := ([(4096, 9), (2048, 18), (1024, 36), (512, 72)][mode]?).getD (1, 1)
      (ramGet mode (ramPut mode c a d) a').toNat = if a' % e.1 = a % e.1 then d.toNat % 2 ^ e.2 else (ramGet mode c a').toNat)
    ∧ (∀ (s : State) (r q : Nat), s.pushReady r q = true ↔ s.rstate r = 3 ∧ (s.queueCfg r q).getLsbD 23 = true
        ∧ (fld (s.queueCfg r q) 21 2 = 0 → s.level r q < queueDepth (s.queueCfg r q)))
    ∧ (∀ (s : State), s.sys.jtag.toNat ∈ [0x00, 0x03, 0x04, 0x05, 0x06] → ∀ n, s.twioPin n = .scanned ∧ s.fallbackPin n = .scanned)
    ∧ (∀ (s : State), s.sys.jtag.toNat ∉ [0x00, 0x03, 0x04, 0x05, 0x06] → (∀ n, s.rstate (n / 4) ≠ 3 → s.twioPin n = .pulledDown)
        ∧ (s.rstate 15 ≠ 3 → ∀ n, s.fallbackPin n = .serial) ∧ (s.rstate 15 = 3 → s.tw.fbpins = false → ∀ n, s.fallbackPin n = .pulledDown)))

/-- R546, R547, R549, R551, R553, R554, R559, R568: with the network up, a packet of a block whose NI is up, with none of its
class waiting before it, enters its NI's router with the head that its route entry gives, spends its flits' tokens and counts
as outstanding when its KIND asks an answer; an entry that is not VALID answers ROUTE_FAULT. A packet that its regulator,
INJEN, 31 outstanding requests or a change of NOC_MODE holds waits at its NI behind those of its class. TOKEN_REFILL adds RATE
to a bucket up to BURST, and the packets that wait for the tokens follow in order. R541, R542, R548, R552, R558, R560, R562,
R563, R566: a router passes a packet that it holds: through a link port in use to the neighbour that the port leads to, its
ROUTE down by one code, on the upper buffer set from a wrap link to the end of that dimension, or through an eject port to an
NI that takes it; one whose next port is not in use, one with twelve hops behind it, and one that its destination refuses
become a head without data on its way to the dead-letter office by the tree rule, a RECEIPT counted instead. A packet whose
head flit is spoiled is discarded; one with a spoiled data flit is marked so. A packet that its destination holds waits, one
of CTRL goes before the others of its port, and what a port lets pass of the other classes is the packet its shares give
(model's choice of the rounds, log entry 112). R555 to R557, R591: a head that passes a router's port is seen by every probe
that watches the port and whose filters it meets: the probe counts the packet and its flits, and a tracing probe that owns its
bank puts a record of eight containers there, at the next place of the bank, or, where the TRACE class cannot carry it in
time, counts it as lost; a record for a bank that is being wiped is discarded. -/
def Obligations.PacketsCrossNetwork : Prop :=
  (
    ∀ (s : State), s.nocUp = true →
      (∀ (n : Fin 111) (i : Fin 128) (k : Packet), s.niUp n = true → packetOk k = true →
        let h := s.builtHead n i k
        let asks : Bool := answered (hKind k.head)
        let key := 4 * n.val + hVc h
        let before := sget [] s.noc.queued key
        let held (g : BitVec 256) : Prop := s.turning = true ∨ s.mayInject n (hVc g) (hLen g) = false ∨ answered (hKind g) = true ∧ s.outst n = 31
        let none_ (t : State) : State := t.mapNoc (fun x => { x with queued := sput [] x.queued key [] })
        (hSrc h = n ∧ hKind h = hKind k.head ∧ hLen h = flits k.data.length ∧ hWorld h = s.niWorld n ∧ hTree h = s.treeMode
          ∧ hTag h = hTag k.head ∧ hAddr h = hAddr k.head)
        ∧ (s.treeMode = false → (s.routeEntry n i).2.getLsbD 23 = false → ¬(hKind k.head = 4 ∧ hVc h ≠ 0) →
          exec (.packetInject n i k) s = .next (s.say .routeFault))
        ∧ ((s.treeMode = true ∨ (s.routeEntry n i).2.getLsbD 23 = true) → ¬(hKind k.head = 4 ∧ hVc h ≠ 0) →
          (before = [] → ¬held h →
            (asks = false → exec (.packetInject n i k) s = .next (none_ (((s.spend n (hVc h) (hLen h)).launch n ⟨h, k.data⟩).say .ok)))
            ∧ (asks = true → exec (.packetInject n i k) s = .next (none_
              (let t := (s.spend n (hVc h) (hLen h)).launch n ⟨h, k.data⟩
               (t.setOutst n (t.outst n + 1)).say .ok))))
          ∧ (∀ e ∈ (before ++ [(i.val, k)]).head?, held (s.builtHead n e.1 e.2) → exec (.packetInject n i k) s = .next (s.mapNoc (fun x =>
            { x with queued := sput [] x.queued key (before ++ [(i.val, k)]) })))))
      ∧ (∀ (n : Fin 111) (c : Fin 4), s.rfld bNOC (0x400 + 4 * n + c) 16 8 ≠ 0 →
        let t := s.mapNoc (fun x => { x with tokens := sput 0 x.tokens (4 * n + c) (min (s.rfld bNOC (0x400 + 4 * n + c) 0 10)
          (sget 0 x.tokens (4 * n + c) + s.rfld bNOC (0x400 + 4 * n + c) 16 8)) })
        (sget [] s.noc.queued (4 * n + c) = [] → exec (.tokenRefill n c) s = .next t)
        ∧ (∀ i k r, sget [] s.noc.queued (4 * n + c) = (i, k) :: r →
          (t.mayGo n (t.builtHead n i k) = true → exec (.tokenRefill n c) s = .next ((t.enterNet n i k).pump n c r))
          ∧ (t.mayGo n (t.builtHead n i k) = false → exec (.tokenRefill n c) s = .next (t.setWaiting n c ((i, k) :: r))))))
  ∧ (
    ∀ (s : State) (n : Fin 64), s.nocUp = true → s.noc.quiesced.any (fun e => e.1 == n.val) = false →
      (s.nextFlight n = none → ∀ e, exec (.routerHop n e) s = .next s)
      ∧ (∀ f ∈ s.readyAt n, f ∈ s.noc.flights ∧ f.at_ = n ∧ s.heldAt n f = false)
      ∧ (∀ f, s.nextFlight n = some f →
        let h := f.packet.head
        let port := nextPort f n
        let out := passedHead h
        let stuck : Bool := f.back.isNone && ((!hTree h && f.hops == 12) || !s.portOk n port)
        let gone := s.unfly f
        let taken := (s.spendCredit n port h).unfly f
        let x : Bool := port % 2 == 1
        let fly (t : State) (g : Flight) : State := t.mapNoc (fun y => { y with flights := y.flights ++ [g] })
        let bounced (st : Status) : State := fly gone ⟨⟨officeHead h, []⟩, n, 0, none, some st, false⟩
        let probed (x : Prop) : Prop := (∀ i < 16, (s.probe i).mode = 0) → x
        f ∈ s.readyAt n
        ∧ ((∃ g ∈ s.readyAt n, nextPort g n = port ∧ hVc g.packet.head = 0) → hVc h = 0)
        ∧ (hTree h = false → hRoute out = hRoute h / 8) ∧ (hTree h = false → f.back = none → port = hRoute h % 8)
        ∧ exec (.routerHop n .head) s = .next gone
        ∧ (f.packet.data ≠ [] → let g : Flight := { f with bad := true }
          exec (.routerHop n .data) s = .next ((s.mapNoc (fun y => { y with flights := y.flights.replace f g })).hopFlight n g))
        ∧ (∀ e, (e = .clean ∨ e = .corrected ∨ e = .data ∧ f.packet.data = []) →
          (stuck = true → hKind h ≠ 5 → exec (.routerHop n e) s = .next (bounced .routeFault))
          ∧ (stuck = true → hKind h = 5 → exec (.routerHop n e) s = .next (gone.count bNOC 0x011 1))
          ∧ (stuck = false → port < 4 → probed (exec (.routerHop n e) s = .next (fly taken { f with
              packet := ⟨out, f.packet.data⟩, at_ := linkTo n port, hops := f.hops + 1,
              upper := if wraps n port then some x else if f.upper = some x then f.upper else none })))
          ∧ (stuck = false → 4 ≤ port → f.back = none →
            (s.eject (n + 64 * (port - 4)) h = some .ok →
              probed (exec (.routerHop n e) s = .next (taken.arrive (n + 64 * (port - 4)) ⟨out, f.packet.data⟩ f.bad)))
            ∧ (∀ st, st ≠ .ok → hKind h ≠ 5 → s.eject (n + 64 * (port - 4)) h = some st →
              exec (.routerHop n e) s = .next (bounced st)))
          ∧ (∀ st, 4 ≤ port → f.back = some st → probed (exec (.routerHop n e) s =
              .next (taken.mapNoc (fun y => { y with office := y.office ++ [(h, st)] })))))))
  ∧ (
    ∀ (s : State) (r port : Nat) (h : BitVec 256) (i : Nat), i < 16 →
      let x := s.probe i
      let t := s.probeSee r port h i
      let at_ := x.wpos % 32768
      (x.matches_ r port h = false → t = s)
      ∧ (x.matches_ r port h = true →
        (t.probe i).packets = (x.packets + 1) % 2 ^ 48 ∧ (t.probe i).flits = (x.flits + hLen h) % 2 ^ 48
        ∧ (∀ j < 16, j ≠ i → t.probe j = s.probe j)
        ∧ ((x.mode = 1 ∨ s.owner x.bank ≠ 0x30 + i ∨ x.mode = 3 ∧ 32768 ≤ x.wpos) → t.mem = s.mem ∧ (t.probe i).loss = x.loss)
        ∧ ((x.mode = 2 ∨ x.mode = 3 ∧ x.wpos < 32768) → s.owner x.bank = 0x30 + i →
          (t.mem = s.mem ∧ (t.probe i).loss = x.loss + 1 ∧ (t.probe i).wpos = x.wpos)
          ∨ ((t.probe i).loss = x.loss ∧ (t.probe i).wpos = (if x.mode = 2 then (at_ + 1) % 32768 else x.wpos + 1)
            ∧ (s.wiping x.bank = true → t.mem = s.mem)
            ∧ (s.wiping x.bank = false → (∀ j < 8, some (t.cont x.bank (8 * at_ + j)) = (traceRecord t.noc.cycles r port h)[j]?)
              ∧ ∀ (b c : Nat), c < 262144 → (b ≠ x.bank ∨ c / 8 ≠ at_) → t.cont b c = s.cont b c)))))

/-- R545, R548, R553, R561, R562, R571 to R573, R581 to R591, R610, R266: the packet at the front of an NI that has taken it:
a READ of DRAM or of a bank is answered with the bytes read, once the NI's regulator lets the answer in, a WRITE and a
WRITE_ACK write theirs, unless a data flit of them is spoiled, and what bars them is the RESPONSE's status; a RESPONSE closes
a request; a MESSAGE at the sequencer raises line 9 and, from the sequencer or a service core at a host port, sets SEQ; a
RECEIPT closes the request it returns, and at the sequencer ends the window access under way with trap 0x0D; a bounced head is
counted, recorded and returned as a RECEIPT. -/
def Obligations.PacketsAreServed : Prop :=
  ∀ (s : State), s.nocUp = true →
    (∀ (n : Fin 111) (k : Packet) (bad : Bool) (rest : List (Packet × Bool)), sget [] s.noc.arrived n = (k, bad) :: rest →
      let h := k.head
      let t := s.mapNoc (fun x => { x with arrived := sput [] x.arrived n rest })
      let got := t.mapNoc (fun x => { x with received := sput 0 x.received n h })
      let room (len : Nat) : Prop := s.rfld bNOC (0x400 + 4 * n + hVc h) 16 8 = 0 ∨ flits len ≤ sget 0 s.noc.tokens (4 * n + hVc h)
      let answer (u : State) (st : Status) (d : List Byte) : State :=
        ((u.setPend n (u.pend n - 1)).spend n (hVc h) (flits d.length)).launch n ⟨u.answerHead n h st d.length, d⟩
      let dram : Prop := 16 ≤ n.val ∧ n.val < 32
      let sound : Prop := ∀ w ∈ s.mem.dramBad, 8 * w + 8 ≤ hAddr h ∨ hAddr h + hBytes h ≤ 8 * w
      (hKind h = 0 →
        (dram → s.routed = true → (∀ e, s.dramAt n h = some e → room 0 → exec (.read n) s = .next (answer t e []))
          ∧ (s.dramAt n h = none → sound → room (hBytes h) → exec (.read n) s = .next (answer
            (t.count bDRM (0x010 + stackOf (hAddr h))
              ((s.mem.dramSingle.filter (fun w => hAddr h < 8 * w + 8 && 8 * w < hAddr h + hBytes h)).length))
            .ok (s.dread (hAddr h) (hBytes h)))))
        ∧ ∀ st d u, t.readAt n h = (st, d, u) →
          (room (if st = .ok then d.length else 0) → exec (.read n) s = .next (u.respond n h st (if st = .ok then d else [])))
          ∧ (¬ room (if st = .ok then d.length else 0) → exec (.read n) s = .next s))
      ∧ (hKind h = 1 → (bad = true → exec (.write n) s = .next t)
        ∧ (bad = false → exec (.write n) s = .next (t.writeAt n k).2)
        ∧ (bad = false → dram → s.dramAt n h = none → exec (.write n) s = .next (t.dwrite (hAddr h) k.data)))
      ∧ (hKind h = 2 → s.routed = true →
        (bad = true → room 0 → exec (.writeAck n) s = .next (answer t .uncorrectable []))
        ∧ (bad = false → dram → s.dramAt n h = none → room 0 →
          exec (.writeAck n) s = .next (answer (t.dwrite (hAddr h) k.data) .ok []))
        ∧ (bad = false → room 0 → ∀ st u, t.writeAt n k = (st, u) → exec (.writeAck n) s = .next (u.respond n h st []))
        ∧ (¬ room 0 → exec (.writeAck n) s = .next s))
      ∧ (hKind h = 3 → exec (.response n) s = .next (got.setOutst n (s.outst n - 1)))
      ∧ (hKind h = 4 → (n.val = 106 → exec (.message n) s = .next (got.raiseLine 9))
        ∧ (n.val = 100 → 102 ≤ hSrc h → hSrc h ≤ 106 → exec (.message n) s = .next (got.cause .a 5))
        ∧ (n.val = 101 → 102 ≤ hSrc h → hSrc h ≤ 106 → exec (.message n) s = .next (got.cause .b 5))
        ∧ ((n.val = 100 ∨ n.val = 101) → (hSrc h < 102 ∨ 106 < hSrc h) → exec (.message n) s = .next got)
        ∧ (n.val ≠ 100 → n.val ≠ 101 → n.val ≠ 106 → exec (.message n) s = .next got))
      ∧ (hKind h = 5 →
        let closed : State := if answered (hAddr h % 8) then got.setOutst n (got.outst n - 1) else got
        ((n.val ≠ 106 ∨ answered (hAddr h % 8) = false ∨ closed.seq.wait.stallsStream = false) → exec (.returnReceipt n) s = .next closed)
        ∧ (∀ op w, n.val = 106 → answered (hAddr h % 8) = true → s.seq.wait = .window op w → exec (.returnReceipt n) s =
          .next ((closed.mapSeq (fun q => { q with
            wait := .none, faddr := q.addrM w,
            fstat := BitVec.ofNat 24 ((if op = 0x31 ∨ op = 0x33 then 256 else 0) + (Status.ofCode (fld h 74 8)).code) })).trap 0x0D)))
      ∧ (∀ k < 6, hKind h ≠ k → exec ([Instr.read n, .write n, .writeAck n, .response n, .message n, .returnReceipt n][k]?.getD .beat) s
          = .next s))
    ∧ (∀ h st rest, s.noc.office = (h, st) :: rest → ∃ t : State, exec .bouncedHead s = .next (t.launch 110 ⟨receiptFor h st, []⟩)
      ∧ (t.reg bNOC 0x012).toNat = hSrc h * 2 ^ 15 + hDst h * 2 ^ 8 + st.code ∧ t.noc = { s.noc with office := rest }
      ∧ t.reg bNOC 0x010 = satAdd (s.reg bNOC 0x010) 1)

/-- R564, R566, R567, R675 to R677, R686, R687, R689, R36: a router is quiesced until it resumes with its new disabled ports.
A domain that is up, and that the mode lets off, closes its NIs; once they are idle it is gated; a memory domain that a packet
waits for wakes, after its closure where that is under way; a domain that is off switches on where the mode has it, with its
reset held, a tile cleared and zeroed, until RESET_RELEASE, which waits for the lock of the domain's PLL; a clock that is not
ready is recorded. R577 to R579, R590, R591, R655, R712, R713: patrol scrub reads a line of a stack in service and removes its
corrected errors; the loss of a stack takes its controllers out of the network, records it and, with its mirror lost, ends any
run and enters STANDBY; the end of a wipe leaves banks 56 to 63 without an owner. -/
def Obligations.DomainsAndMemoryEvents : Prop :=
  (
    ∀ (s : State),
      (∀ (n : Fin 64) (ports : BitVec 8),
        (s.noc.quiesced = [] → exec (.routerReconfiguration n ports) s = .next (s.mapNoc (fun x => { x with quiesced := [(n.val, ports)] })))
        ∧ (s.noc.quiesced = [(n.val, ports)] → exec (.routerResume n) s = .next (s.mapNoc (fun x => { x with
            quiesced := [], disabled := sput 0 x.disabled n ports }))))
      ∧ (∀ d : Fin 357,
        (s.domainUp d = true → s.keepOn d = false → exec (.domainClose d) s = .next (s.markNis d 1))
        ∧ ((s.domainUp d = false ∨ s.keepOn d = true) → exec (.domainClose d) s = .next s)
        ∧ (s.domain d = true → s.closed d = true → s.keepOn d = false → ∃ t : State, exec (.domainGate d) s = .next t.lanesFollow
          ∧ t.domain d = false ∧ d.val ∉ t.sys.held ∧ (d.val ≠ 352 → t.mem = s.mem ∧ t.seq = s.seq)
          ∧ (d.val < 272 → t.cv.mem = s.cv.mem) ∧ (∀ r : Fin 16, d.val = 312 + r → t.rstate r = 0))
        ∧ ((s.domain d = false ∨ s.closed d = false ∨ s.keepOn d = true) → exec (.domainGate d) s = .next s)
        ∧ (s.nocUp = true → s.sys.shutdown = false → s.wanted d = true →
          (s.domain d = false → exec (.domainWake d) s = .next (s.holdNew (((s.setDomain d true).markNis d 0).unretain d)))
          ∧ (s.domain d = true → s.closed d = false → exec (.domainWake d) s = .next s)
          ∧ (s.domain d = true → s.closed d = true → exec (.domainWake d) s =
            .next ((s.offDomain d).holdNew ((((s.offDomain d).setDomain d true).markNis d 0).unretain d))))
        ∧ (s.domain d = true ∨ s.mayPower d = false → exec (.domainSwitchOn d) s = .next s)
        ∧ (s.domain d = false → s.mayPower d = true → ∃ t : State, exec (.domainSwitchOn d) s = .next t
          ∧ t.domain d = true ∧ d.val ∈ t.sys.held ∧ t.domainUp d = false ∧ t.mem = s.mem ∧ t.seq = s.seq
          ∧ (d.val < 272 → t.cv.zeroing.getLsbD d = true ∧ ∀ k, (pget t.cv.mem k) &&& tilesPlane (BitVec.ofNat 272 (2 ^ d.val)) = 0))
        ∧ (s.sys.held.contains d.val = true →
          let good : Bool := if d.val = 355 then s.sys.pa.pll else if d.val = 356 then s.sys.pb.pll else (s.reg bCLK 0).getLsbD
            (if d.val < 272 ∨ d.val = 352 then 22 else if 328 ≤ d.val ∧ d.val < 332 then 20 else 21)
          (good = false → exec (.resetRelease d) s = .next s)
          ∧ (good = true → d.val < 312 ∨ 328 ≤ d.val → exec (.resetRelease d) s = .next (s.mapSys (fun y => { y with
            held := y.held.filter (· != d.val), noClock := y.noClock.filter (· != d.val) })).lanesFollow)
          ∧ ((s.reg bRST 2).getLsbD 23 = false → ∃ t : State, exec (.clockNotReady d) s = .next t
            ∧ (t.reg bRST 2).toNat = 2 ^ 23 + d ∧ (t.reg bRST 0).getLsbD 10 = true ∧ d.val ∈ t.sys.held))
        ∧ (s.sys.held.contains d.val = false → exec (.resetRelease d) s = .next s)
        ∧ (s.comingOn d = false → exec (.clockNotReady d) s = .next s))
      ∧ (∀ n : Fin 272, s.sys.held.contains n.val = false → s.cv.zeroing.getLsbD n = true →
        (s.sys.mode = .maintenance → exec (.tileZeroingComplete n) s = .next (s.mapCv (fun c => { c with zeroing := setBit c.zeroing n false })))
        ∧ exec (.tileZeroingComplete n) s = .next ((s.mapCv (fun c => { c with zeroing := setBit c.zeroing n false })).writeImages (fun l =>
          physTile s.cv.failed l == some n.val && s.usedTile l && s.inModes [.configure, .armed, .run]))))
  ∧ (
    ∀ (s : State),
      (∀ line : BitVec 28, let a := 64 * line.toNat
        ((s.rfld bDRM 0 0 8 = 0 ∨ s.rfld bDRM 1 (2 * stackOf a) 2 ≠ 0) → exec (.patrolScrub line) s = .next s)
        ∧ (s.rfld bDRM 0 0 8 ≠ 0 → s.rfld bDRM 1 (2 * stackOf a) 2 = 0 → exec (.patrolScrub line) s = .next
          ((s.dramRead a 64).2.2.mapMem (fun m => { m with
            dramSingle := m.dramSingle.filter (fun w => !(a ≤ 8 * w && 8 * w < a + 64)) }))))
      ∧ (∀ k : Fin 4, (s.lost k = true → exec (.stackLoss k) s = .next s)
        ∧ (s.lost k = false → s.lost (mirrorOf k) = false →
          exec (.stackLoss k) s = .next (((s.setRfld bDRM 1 (2 * k) 2 1).disableStack k).notice 0x0B k .ok bDRM))
        ∧ (s.lost k = false → s.lost (mirrorOf k) = true → exec (.stackLoss k) s =
          .next (((s.setRfld bDRM 1 (2 * k) 2 1).disableStack k).notice 0x0B k .routeFault bDRM).pairFallen))
      ∧ ((∃ i < 8, s.wiping (56 + i) = true) → s.sys.wipe = none → ∃ t : State, exec .wipeComplete s = .next t
        ∧ (∀ i < 8, t.wiping (56 + i) = false ∧ t.owner (56 + i) = 0 ∧ t.rfld bPH (0x138 + i) 21 1 = 0) ∧ t.mem = s.mem
        ∧ (∀ b < 56, t.owner b = s.owner b) ∧ t.seq = s.seq ∧ t.cv = s.cv))

/-- R604, R606, R610, R611, R617, R618: a doorbell that reaches the module: a tail or head that is a whole number of packets
within the room it may move takes its value, and any other sets RINGERR; SEQ raises the port's sequencer line and PEER the
other port's cause; HOST_ISTAT clears the bits written 1, but one that a cause sets in the same clock stays and sends its
vector where it is enabled. R612 to R614: a free semaphore, or the writer's own, takes the writer and its lease; one that the
other port owns keeps; LEASE 0 by the owner frees it; a LEASE above 16,000,000 is recorded as BAD_PARAMETER. Of two writes in
one tick the port that won the last contest yields. An expired lease frees the semaphore, latches its bit, sets LEASE at its
owner and raises line 10. R599, R600, R604 to R606, R620, R630, R637, R688, R692: a BAR access in SLEEP starts a wake, and a
write waits at its port there, or where the network holds it; a BAR0 read shows its register, in SLEEP the always-on ones
alone. A port reset ends the port's sessions, claims, held writes and held replies, takes its link down and its areas and
configuration to their reset values, and gates the port once its NI is quiet; the link comes up again with the host's
configuration, but for port B under the x16 strap; a held reply is written when it fits; the nonce expires. R599, R602, R607,
R608, R649, R692, R695: BAR2 reads and writes the DRAM of regions that sessions of the port have claimed, and the bank window
the containers of a bank that the port may access, each through the regulator of the port's NI; what is refused, or returned
by the network with a receipt (R560 to R562), is recorded in HOST_ERR, a read refused completes as unsupported, and one whose
data has an uncorrectable error completes poisoned; a read that the network holds does not complete yet, and one in SLEEP
gives zeros. While the boot ROM waits for an image a permitted port reads and writes its buffer. -/
def Obligations.HostPortsAct : Prop :=
  (
    ∀ (s : State) (p : Port) (v : Cont), s.awake p = true →
      let r (o : Nat) : Nat := (s.reg (mbx p) o).toNat
      let bell (c : Instr) (o size room : Nat) : Prop := r o < size →
        (v.toNat % 4 = 0 → v.toNat < size → (v.toNat + size - r o) % size ≤ room →
          exec c s = .next (s.setReg (mbx p) o (v.setWidth 24)).wake)
        ∧ ((v.toNat % 4 ≠ 0 ∨ size ≤ v.toNat ∨ room < (v.toNat + size - r o) % size) → exec c s = .next (s.cause p 2).wake)
      bell (.hostDbReq p v) 0x008 131072 (131071 - (r 0x008 + 131072 - r 0x004) % 131072)
      ∧ bell (.hostDbRep p v) 0x00C 65536 ((r 0x010 + 65536 - r 0x00C) % 65536)
      ∧ bell (.hostDbEv p v) 0x014 16384 ((r 0x018 + 16384 - r 0x014) % 16384)
      ∧ (v.getLsbD 0 = true → exec (.hostDbSeq p v) s = .next (s.raiseLine (4 + portIdx p)).wake
        ∧ exec (.hostDbPeer p v) s = .next (s.cause (portOther p) 4).wake)
      ∧ (v.getLsbD 0 = false → exec (.hostDbSeq p v) s = .next s.wake ∧ exec (.hostDbPeer p v) s = .next s.wake)
      ∧ (∀ w : WriteData, (w.be ≠ 0xF → exec (.hostIstatWrite p w) s = .next s)
        ∧ (w.be = 0xF → ∃ x, exec (.hostIstatWrite p w) s = .next (((List.range 8).foldl (fun t c =>
              if w.value.getLsbD c && w.hit.getLsbD c && (s.reg (dbl p) 0x020).getLsbD c && (s.reg (dbl p) 0x024).getLsbD c
              then t.sendVector p c else t) (s.setReg (dbl p) 0x020 x)).wake)
          ∧ ∀ i < 24, x.getLsbD i = ((s.reg (dbl p) 0x020).getLsbD i
            && !(decide (i < 8) && w.value.getLsbD i && !w.hit.getLsbD i)))))
  ∧ (
    ∀ (s : State) (p : Port) (n : Fin 128) (v : Word), s.awake p = true →
      let own := (s.sem n).1
      let me := portIdx p + 1
      let r := exec (.semWrite p n v none) s
      (16000000 < v.toNat → r = .next (s.hostErr p .badParameter true 0 (0x4000 + 4 * n)).wake)
      ∧ (1 ≤ v.toNat → v.toNat ≤ 16000000 → (own = 0 ∨ own = me) → r = .next (s.setSem n (me, v.toNat)).wake)
      ∧ (v.toNat ≤ 16000000 → own ≠ 0 → own ≠ me → r = .next s.wake)
      ∧ (v.toNat = 0 → own = me → r = .next (s.setSem n (0, 0)).wake) ∧ (v.toNat = 0 → own = 0 → r = .next s.wake)
      ∧ (∀ u : Word, 1 ≤ v.toNat → v.toNat ≤ 16000000 → 1 ≤ u.toNat → u.toNat ≤ 16000000 → own = 0 →
        exec (.semWrite p n v (some u)) s = .next (
          if s.sys.tieWinner = some p ∨ (s.sys.tieWinner = none ∧ p = .b)
          then (s.mapSys (fun y => { y with tieWinner := some (portOther p) })).setSem n (portIdx (portOther p) + 1, u.toNat)
          else (s.mapSys (fun y => { y with tieWinner := some p })).setSem n (me, v.toNat)).wake)
      ∧ ((own = 0 ∨ 1 < (s.sem n).2) → exec (.leaseExpiry n) s = .next s)
      ∧ (own = me → (s.sem n).2 ≤ 1 → exec (.leaseExpiry n) s = .next ((((s.setSem n (0, 0)).setRfld (mbx p) (0x020 + 4 * (n / 24))
          (n % 24) 1 1).cause p 3).raiseLine 10)))
  ∧ (
    ∀ (s : State) (p : Port),
      let waking (t : State) : State := t.mapSys (fun y => { y with transition := some (.standby, none) })
      let held (c : BarWrite) : State := s.mapSys (fun y => { y with posted := y.posted ++ [(p, c)] })
      let low (o : BitVec 24) : Nat := o.toNat / 4 * 4
      let shows (t : State) (l : List Cont) : State := t.mapPort p (fun h => { h with
        completion := l, poisoned := false, unsupported := false })
      (s.portOn p = true → s.sys.mode = .sleep → s.sys.transition = none →
        exec (.sleepWake p none) s = .next (waking s)
        ∧ (∀ o, low o < 0x3000 → exec (.sleepWake p (some o)) s = .next (waking (shows s [(s.bar0Word p (low o))])))
        ∧ (∀ o, 0x3000 ≤ low o → exec (.sleepWake p (some o)) s =
            .next (waking ((shows s [0]).hostErr p .domainAsleep false 0 (low o))))
        ∧ (∀ v, exec (.hostDbReq p v) s = .next (waking (held (.request v))))
        ∧ ∀ off d, exec (.bar2Write p off d) s = .next (waking (held (.memory off.toNat d))))
      ∧ (s.portOn p = true → s.sys.mode ≠ .sleep →
        (s.barHeld p none = true → (∀ v, exec (.hostDbReq p v) s = .next (held (.request v)).wake)
          ∧ ∀ o, exec (.sleepWake p (some o)) s = .next s)
        ∧ (s.barHeld p none = false → exec (.sleepWake p none) s = .next s.wake
          ∧ ∀ o, exec (.sleepWake p (some o)) s = .next (shows s [(s.bar0Word p (low o))]).wake)
        ∧ (∀ (off : BitVec 28) d, s.barHeld p (s.bar2Target p off.toNat d.length true) = true →
          exec (.bar2Write p off d) s = .next (held (.memory off.toNat d)).wake))
      ∧ ((s.port p).link = false → exec (.sleepWake p none) s = .next s ∧ ∀ v, exec (.hostDbReq p v) s = .next s)
      ∧ ((∀ k, s.sys.resetDue ≠ some (p, k)) → ∃ t, exec (.portReset p) s = .next t ∧ (t.port p).link = false ∧ (t.port p).sessions = []
        ∧ (t.port p).replies = [] ∧ (t.port p).config = PortConfig.reset ∧ (∀ e ∈ t.sys.posted, e.1 ≠ p)
        ∧ (∀ o < 0x054, t.reg (mbx p) o = resetOf (rkey (mbx p) o)) ∧ t.reg (dbl p) 0x020 = 0
        ∧ (∀ c ∈ t.sys.claims, c.port ≠ some p)
        ∧ t.domain (355 + portIdx p) = (s.domain (355 + portIdx p) && !s.quietNis (355 + portIdx p))
        ∧ t.port (portOther p) = s.port (portOther p) ∧ t.seq = s.seq ∧ t.cv = s.cv ∧ t.sys.sems = s.sys.sems)
      ∧ (s.sys.boot = .done → s.sys.shutdown = false → (p = .a ∨ s.x16 = false) → ∀ c : PortConfig, ∃ lanes : Fin 5,
        lanes.val = (if s.x16 = true then c.lanes.val else min c.lanes.val 3)
        ∧ exec (.pcieLinkUp p c) s = .next ((s.holdNew ((s.mapPort p (fun h => { h with
            link := true, pll := true, config := { c with lanes := lanes } })).setDomain (355 + portIdx p) true)).markNis
            (355 + portIdx p) 0))
      ∧ (p = .b → s.x16 = true → ∀ c, exec (.pcieLinkUp p c) s = .next s)
      ∧ (∀ ws r at_ pad, (s.port p).replies = ws :: r → s.replyFits p ws = some (at_, pad) → exec (.replyRelease p) s =
        .next (((s.mapPort p (fun h => { h with replies := r })).ringPut p false at_ pad ws).resetReply p))
      ∧ ((s.port p).replies = [] → exec (.replyRelease p) s = .next s)
      ∧ (exec (.nonceExpiry p) s = .next (s.mapPort p (fun h => { h with nonce := none }))))
  ∧ (
    ∀ (s : State) (p : Port) (off : BitVec 28), s.portOn p = true →
      let a := s.bar2At p off.toNat
      let shows (t : State) (l : List Cont) (bad none_ : Bool) : State := t.mapPort p (fun h => { h with
        completion := l, poisoned := bad, unsupported := none_, aer := h.aer || none_ })
      (∀ d, let x := s.bar2Target p off.toNat d.length true
        let t := s.barSpend p x
        s.awakeTo p x = true → s.bootPort p = false →
        (∀ e, t.bar2Bar p a d.length = some e → exec (.bar2Write p off d) s =
          .next ((t.bar2Back p true a d.length e).hostErr p e true 2 off.toNat).wake)
        ∧ (t.bar2Bar p a d.length = none → exec (.bar2Write p off d) s =
          .next ((t.dwrite a d).bar2Seen p true a d.length .ok).wake))
      ∧ (∀ n, let x := s.bar2Target p off.toNat n false
        let t := s.barSpend p x
        s.awakeTo p x = true → s.bootPort p = false →
        (∀ e, t.bar2Bar p a n = some e → exec (.bar2Read p off n) s =
          .next ((shows (t.bar2Back p false a n e) [] false true).hostErr p e false 2 off.toNat).wake)
        ∧ (∀ b u, t.bar2Bar p a n = none → t.dramRead a n = (.ok, b, u) →
          exec (.bar2Read p off n) s = .next (shows (u.bar2Seen p false a n .ok) (containers b) false false).wake)
        ∧ (∀ st b u, t.bar2Bar p a n = none → t.dramRead a n = (st, b, u) → st ≠ .ok → ∃ l,
          exec (.bar2Read p off n) s = .next ((shows (u.bar2Seen p false a n st).drawn l true false).hostErr p st false 2 off.toNat).wake))
      ∧ (s.awake p = true → s.bootPort p = true → ∀ d, off.toNat + d.length ≤ 0x200000 →
        exec (.bar2Write p off d) s = .next (s.mapSys (fun y => { y with
          staged := sput [] y.staged 5 (bufferPut (sget [] y.staged 5) off.toNat d) })).wake)
      ∧ (∀ (own wr : Bool) (n : BitVec 18) (v : Cont),
        let x := s.bankTarget p own wr
        let t := s.barSpend p x
        let w := s.reg (mbx p) 0x044
        let b := if own then portIdx p else fld w 0 6
        let view := if own then 0 else fld w 6 2
        let at_ := (if own then 0x400000 else 0x800000) + 4 * n.toNat
        let go : Transfer := ⟨100 + portIdx p, 32 + b / 4, 0, wr, false, view, b % 4 * 2 ^ 20 + 4 * n.toNat, 4⟩
        let far := t.bounced go.src go.dst
        let r := exec (.bar0BankWindowAccess p own wr n v) s
        let back (u : State) (st : Status) : State := if wr then u.hostErr p st true 1 at_
          else shows (u.hostErr p st false 1 at_) [] false true
        s.awakeTo p x = true →
        (view = 3 → r = .next (back t .badParameter).wake)
        ∧ (view ≠ 3 → (∀ e, far = some e → r = .next (back ((t.noteReceipt go.src go.dst e).seenBack go e) e).wake)
          ∧ (∀ c u, far = none → t.bankAccess (ownHost p) false wr view b n.toNat v = (.ok, c, u) →
            r = .next (if wr then u.seen go .ok else shows (u.seen go .ok) [c] false false).wake)
          ∧ (∀ st c u, far = none → t.bankAccess (ownHost p) false wr view b n.toNat v = (st, c, u) → st ≠ .ok →
            (st ≠ .uncorrectable ∨ wr = true → r = .next (back (u.seen go st) st).wake)
            ∧ (st = .uncorrectable → wr = false → ∃ l, r = .next (shows ((u.seen go st).hostErr p st false 1 at_).drawn [l] true
              false).wake))))
      ∧ (s.sys.mode ≠ .sleep → (∀ n, s.barHeld p (s.bar2Target p off.toNat n false) = true → exec (.bar2Read p off n) s = .next s)
        ∧ ∀ own n v, s.barHeld p (s.bankTarget p own false) = true → exec (.bar0BankWindowAccess p own false n v) s = .next s)
      ∧ (s.sys.mode = .sleep → s.sys.transition = none → ∀ (own : Bool) (n : BitVec 18) (v : Cont), ∃ t : State,
        exec (.bar0BankWindowAccess p own false n v) s = .next (t.mapSys (fun y => { y with transition := some (.standby, none) }))
        ∧ t = (shows s [0] false false).hostErr p .domainAsleep false 1 ((if own then 0x400000 else 0x800000) + 4 * n.toNat)
        ∧ (∀ k, exec (.bar2Read p off k) s = .next ((((shows s (List.replicate ((k + 3) / 4) 0) false false).hostErr p .domainAsleep
            false 2 off.toNat)).mapSys (fun y => { y with transition := some (.standby, none) })))))

/-- R474, R512, R628, R632, R633, R748: HELLO agrees the lower of the host's version and 3, unless a command of the port is in
progress; GET_INFO gives the identity, the formats and the state; BUDGET_QUERY the ledger, and of a section its two energies
in mJ, forecast and measured; GET_PLACEMENT the report, a postcode's PE and the postcodes of a PE, of the placement in effect;
PROBE_READ a probe's counts, cleared when asked. A selector that belongs to no row is BAD_PARAMETER, whatever row it comes by.
R592 to R596, R632: CAPTURE_READ hands the session that holds a mailbag up to the records asked for that its ring holds, into
the port's mailbox bank, moves the read pointer past them and answers how many and the new pointer. -/
def Obligations.QueriesAnswer : Prop :=
  (
    ∀ (s t : State) (p : Port) (q : Request),
      let ok (u : State) (l : List Word) : State := u.answerTo (.ring p) q .ok 0 l
      let no (st : Status) : State := t.answerTo (.ring p) q st 0 []
      let w24 (n : Nat) : Word := BitVec.ofNat 24 n
      (q.op = 0x01 → s.RowDoes t p q (.hello p q) (plainDemand 1 (q.len == 1 && decide (1 ≤ q.arg 0) && decide (q.arg 0 < 16)))
        (if (t.port p).jobs.any (fun j => j.via == .ring p) then no .busy
          else ok (t.setRfld (mbx p) 0 0 4 (min (q.arg 0) 3)) [w24 (min (q.arg 0) 3), Config.fwVersion t.sys.mFw, seqId]))
      ∧ (q.op = 0x02 → let d := plainDemand 1 (q.len == 1 && decide (q.arg 0 < 3))
        (q.arg 0 = 0 ∨ 2 < q.arg 0 → s.RowDoes t p q (.getInfoIdentity p q) d (ok t (packBytes (leBytes 16 t.otp.ident.toNat)
          ++ [w24 t.otp.lifecycle, w24 (portIdx p), w24 (t.rfld bRST 1 2 1)])))
        ∧ (q.arg 0 = 1 ∨ 2 < q.arg 0 → s.RowDoes t p q (.getInfoFormats p q) d (ok t (t.info (.ring p) 1)))
        ∧ (q.arg 0 = 2 ∨ 2 < q.arg 0 → s.RowDoes t p q (.getInfoState p q) d
          (ok t [w24 t.sys.mode.code, t.regValue bCGM 0, t.regValue bSOF 1, t.regValue bMCU 0])))
      ∧ (q.op = 0x21 → (q.arg 0 = 0 ∨ 1 < q.arg 0 → s.RowDoes t p q (.budgetQueryLedger p q) (plainDemand 2 (q.len == 1 && q.arg 0 == 0)) (ok t t.ledger))
        ∧ (q.arg 0 = 1 ∨ 1 < q.arg 0 → s.RowDoes t p q (.budgetQuerySection p q) (plainDemand 2 (q.len == 2 && q.arg 0 == 1))
          (match t.energies.findIdx? (fun e => e.id == q.arg 1) with
            | none => no .badParameter
            | some i => ok t [sat24 (sget 0 t.frk.forecast i / (100 * watt)), sat24 (sget 0 t.frk.sections i / 100000)])))
      ∧ (q.op = 0x13 →
        (q.arg 0 = 0 ∨ 2 < q.arg 0 → s.RowDoes t p q (.getPlacementReport p q)
          { plainDemand 1 (q.len == 3 && q.arg 0 == 0 && q.addrOk 1) with
            permit := (t.dramFor (.ring p) q.sess (q.addr 1) t.reportBytes.length, 0) }
          (if t.sof.effect.isNone then no .noPlacement else ok (t.dwrite (q.addr 1) t.reportBytes) [w24 t.reportBytes.length]))
        ∧ (q.arg 0 = 1 ∨ 2 < q.arg 0 → s.RowDoes t p q (.getPlacementPostcode p q) (plainDemand 1 (q.len == 2 && q.arg 0 == 1))
          (match t.sof.effect with
            | none => no .noPlacement
            | some x => match x.entries.find? (fun e => e.2.postcode == q.arg 1) with
              | some (l, e) => ok t [w24 (entryXY l e).1, w24 (entryXY l e).2, w24 e.off, w24 e.width]
              | none => no .badParameter))
        ∧ (q.arg 0 = 2 ∨ 2 < q.arg 0 → s.RowDoes t p q (.getPlacementPe p q)
          (plainDemand 1 (q.len == 3 && q.arg 0 == 2 && decide (q.arg 1 < 1024) && decide (q.arg 2 < 1024)))
          (match t.sof.effect with
            | none => no .noPlacement
            | some x =>
              let l := (x.entries.filter (fun e => entryXY e.1 e.2 == (q.arg 1, q.arg 2))).map (fun e => e.2.postcode)
              ok t (w24 l.length :: l.map w24))))
      ∧ (q.op = 0x41 → let i := fld (q.word 0) 0 4
        s.RowDoes t p q (.probeRead p q)
          { ver := 1, fields := q.len == 1 && decide (q.arg 0 < 32), mode := true, early := false,
            permit := (t.needs (.ring p) q.sess 1 i, match t.heldBy (.ring p) q.sess 1 i with | some d => d | none => 0) }
          (ok (if (q.word 0).getLsbD 4 then t.setProbe i { t.probe i with packets := 0, flits := 0, loss := 0 } else t)
            (words48 (t.probe i).packets ++ words48 (t.probe i).flits ++ [w24 (t.probe i).wpos, sat24 (t.probe i).loss])))
      ∧ (opListed q.op = false → q.op ≠ 0 → s.interprets (.ring p) = true → s.takePacket p q = (true, t) →
        t.check5 (.ring p) q 1 = .unknownOpcode → exec (.unknownOpcodeRequest p q) s = .next (no .unknownOpcode)))
  ∧ (
    ∀ (s t u : State) (p : Port) (q : Request) (b : List Byte), q.op = 0x32 → s.interprets (.ring p) = true → s.takePacket p q = (true, t) →
      let v := Via.ring p
      let k := q.arg 0
      let base := (t.ringOf k).1
      let size := (t.ringOf k).2
      let rd := t.rfld bMBG (0x030 + k) 0 24 % size
      let n := min (q.arg 1) (((t.reg bMBG (0x020 + k)).toNat + size - rd) % size)
      t.check v q { ver := 1, fields := q.len == 3 && decide (k < 16) && decide (1 ≤ q.arg 1) && decide (q.arg 1 ≤ 12288)
                      && q.arg 2 % 4 == 0 && decide (0x34000 ≤ q.arg 2) && decide (q.arg 2 + 4 * q.arg 1 ≤ 0x40000),
                    permit := (t.needs v q.sess 2 k, match t.heldBy v q.sess 2 k with | some d => d | none => 0), mode := true,
                    early := false } = (.ok, 0) →
      (∀ e, t.dramBar (t.sessionSecure v q.sess) base (16 * size) = some e → exec (.captureRead p q) s = .next (t.answerTo v q e 0 []))
      ∧ (t.dramBar (t.sessionSecure v q.sess) base (16 * size) = none → t.bagRead base size rd n = (.ok, b, u) →
        exec (.captureRead p q) s = .next ((((u.putRaw (portIdx p) (q.arg 2) (containers b)).setReg bMBG (0x030 + k)
          (BitVec.ofNat 24 ((rd + n) % size))).mailbagFill k).answerTo v q .ok 0 [BitVec.ofNat 24 n, BitVec.ofNat 24 ((rd + n) % size)]))
      ∧ (∀ st, st ≠ .ok → t.dramBar (t.sessionSecure v q.sess) base (16 * size) = none → t.bagRead base size rd n = (st, b, u) →
        exec (.captureRead p q) s = .next (u.answerTo v q st 0 [])))

/-- R425, R511, R633, R640: LOAD_IMAGE of each kind reads the image from DRAM that the session holds, checks it, stages it
with its slot claimed and answers its digest, a Tweed image's regions coming on where the mode powers them (R511); a read or a
check that fails is the reply's status and stages nothing. -/
def Obligations.ImagesAreStaged : Prop :=
  ∀ (s t : State) (p : Port) (q : Request), q.op = 0x10 →
    let v := Via.ring p
    let held (k : Nat) : Status × Nat := match t.heldBy v q.sess 8 k with | some d => (.resourceClaimed, d) | none => (.ok, 0)
    let dram := t.dramFor v q.sess (q.addr 1) (q.addr 3)
    let demand (k : Nat) (modes : List Mode) : Demand :=
      { ver := 1, fields := q.len == 5 && decide (q.arg 0 < 5) && q.addrOk 1 && q.countOk 3, mode := modes.contains t.sys.mode,
        early := decide (2 ≤ k), permit := if k < 2 && !t.sessionSecure v q.sess then (.denied, 0)
          else if dram ≠ .ok then (dram, 0) else held k }
    let loaded (k : Nat) : State := match t.dramRead (q.addr 1) (q.addr 3) with
      | (st, b, u) =>
        if st ≠ .ok then u.answerTo v q st 0 []
        else if (u.imageCheck v q.sess k b).1 ≠ .ok then u.answerTo v q (u.imageCheck v q.sess k b).1 (u.imageCheck v q.sess k b).2 []
        else
          let w := (u.addClaim v q.sess 8 k).mapSys (fun y => { y with staged := sput [] y.staged k b })
          (if k = 2 ∧ w.sys.mode ≠ .sleep ∧ w.sys.mode ≠ .standby then (tweedRegions b).foldl State.ungateRegion w else w).answerTo v q
            .ok 0 (packBytes (digestBytes (Config.sha512 b)))
    (q.arg 0 = 0 ∨ 4 < q.arg 0 → s.RowDoes t p q (.loadImageFirmware p q) (demand 0 [.maintenance]) (loaded 0))
    ∧ (q.arg 0 = 1 ∨ 4 < q.arg 0 → s.RowDoes t p q (.loadImagePatch p q) (demand 1 [.standby, .configure, .maintenance]) (loaded 1))
    ∧ (q.arg 0 = 2 ∨ 4 < q.arg 0 → s.RowDoes t p q (.loadImageTweed p q) (demand 2 [.standby, .configure, .maintenance, .armed, .run]) (loaded 2))
    ∧ (q.arg 0 = 3 ∨ 4 < q.arg 0 → s.RowDoes t p q (.loadImageProgram p q) (demand 3 [.configure]) (loaded 3))
    ∧ (q.arg 0 = 4 ∨ 4 < q.arg 0 → s.RowDoes t p q (.loadImageChannelMap p q) (demand 4 [.configure]) (loaded 4))

/-- R634, R645, R690, R691, R713: a COMMIT that passes its checks answers ROUTE_FAULT with a mirror pair lost, NO_PLACEMENT
where program, map and placement would not match, WRONG_MODE for an ARM with nothing to arm and BUSY for a Tweed part while a
load is under way or one of its regions is being cleared; else its parts take effect, and it replies, or with ARM the
transition to ARMED begins and with firmware that to STANDBY; a Tweed part begins its load. The parts take effect together:
the patch, the map, the program's memories and secure registers, the placement staged, and firmware on restarted service
cores. R460, R467, R468: a PLACE that passes its checks begins on every tile in service, BUSY beside another and BAD_PARAMETER
without its images; PLACE_COMPLETE stages the placement and answers its two words, or answers NO_PLACEMENT with its reason and
item. -/
def Obligations.CommitsAndPlacements : Prop :=
  (
    (∀ (s t : State) (p : Port) (q : Request), q.op = 0x11 →
      let v := Via.ring p
      let w := q.arg 0
      let sec := t.sessionSecure v q.sess
      let j := jobOf q v [w, sec.toNat]
      let st := tweedHeader t.otp ((t.reg bTWC 0x020).getLsbD 0) (t.stagedImage 2)
      let moves (x : State) (m : Mode) : State := (x.mapSys (fun y => { y with transition := some (m, some j) })).closeFor m 1
      s.RowDoes t p q (.commit p q) (t.commitDemand v q) (
        if t.pairLost then t.answerTo v q .routeFault 0 []
        else if w / 8 % 8 ≠ 0 && !t.matches_ w then t.answerTo v q .noPlacement 0 []
        else if w.testBit 8 && w / 8 % 8 = 0 && !t.ready then t.answerTo v q .wrongMode 0 []
        else if w.testBit 2 && (t.tw.load.isSome || (tweedRegions (t.stagedImage 2)).any (fun r => t.clearing (clearRegion r))) then
          t.answerTo v q .busy 0 []
        else if w.testBit 2 then
          (if st ≠ .ok then t.answerTo v q .rolledBack (st.code * 256 + 2) []
            else ((t.begin j).mapSys (fun y => { y with commit := some j })).startLoad
              { image := t.stagedImage 2, next := 0, passed := false, reload := false, cause := .ok, barred := none })
        else if w.testBit 8 then moves ((t.begin j).applyParts w sec) .armed
        else if w.testBit 0 then moves ((t.begin j).applyParts w sec) .standby
        else ((t.begin j).applyParts w sec).finish j .ok 0 []))
    ∧ (∀ (s : State) (sec : Bool),
      (s.applyParts 2 sec).arr.patch = some (patchOf (s.stagedImage 1)) ∧ (s.applyParts 16 sec).committedImage 4 = s.stagedImage 4
      ∧ (s.applyParts 8 sec).smem = progMemory (s.stagedImage 3) ∧ (s.applyParts 8 sec).sys.entry = progEntry (s.stagedImage 3)
      ∧ (s.applyParts 8 sec).committedImage 3 = s.stagedImage 3
      ∧ (s.applyParts 1 sec).committedImage 0 = s.stagedImage 0 ∧ (s.applyParts 1 sec).sys.mFw = firmwareDigest (s.stagedImage 0)
      ∧ (s.applyParts 1 sec).sys.cores = List.replicate 4 Core.reset
      ∧ (∀ x, s.sof.staged = some x → (s.applyParts 32 sec).sof.staged = none ∧ (s.applyParts 32 sec).sys.noPlacement = false)
      ∧ (∀ k, k = 0 ∨ k = 1 ∨ k = 3 ∨ k = 4 → (s.applyParts (2 ^ k) sec).stagedImage k = [])))
  ∧ (
    (∀ (s t : State) (p : Port) (q : Request), q.op = 0x12 →
      let v := Via.ring p
      let i := t.placeInput (q.word 0) (q.word 1)
      let slot := ([3, 4].filterMap (fun k => if (t.stagedImage k).isEmpty then none else t.heldBy v q.sess 8 k)).head?
      s.RowDoes t p q (.place p q)
        { ver := 1, fields := q.len == 2 && placeWordsOk (q.word 0) (q.word 1), mode := [Mode.configure].contains t.sys.mode, early := false,
          permit := match slot with
            | some d => (.resourceClaimed, d)
            | none => if !t.sessionSecure v q.sess && (List.range 256).any t.tileWorld then (.denied, 0) else (.ok, 0) } (
        if t.sof.result.isSome then t.answerTo v q .busy 0 []
        else if (t.placeImage 3).isEmpty || (t.placeImage 4).isEmpty || !i.ok then t.answerTo v q .badParameter 0 []
        else
          let u := (t.begin (jobOf q v [])).mapCv (fun c => c.powerTiles (t.physSet t.inServiceTile) false)
          ({ u with sof := { u.sof with result := some i.solve } } : State).setReg bSOF 0 0x900000))
    ∧ (∀ (s : State), (s.sof.result = none → exec .placeComplete s = .next s)
      ∧ (∀ x a b c, s.sof.result = some (some x, a, b, c) → exec .placeComplete s =
        .next ((({ s.sorted with sof := { s.sof with result := none, staged := some x } } : State).sofDone 1 .ok 0 0).finish?
          s.placeJob .ok 0 [x.tiles, x.xform]))
      ∧ (∀ a b c, s.sof.result = some (none, a, b, c) → exec .placeComplete s =
        .next ((({ s.sorted with sof := { s.sof with result := none, failPostcode := BitVec.ofNat 24 c } } : State).sofDone 1
          .noPlacement a b).finish? s.placeJob .noPlacement (a * 256 + b) []))))

/-- R148, R461, R635: LOAD_PARAMS that passes its checks is BUSY beside another or a PLACE; for one tile in service outside
RUN, the tile and its image take the planes read, the job is over with its reply, and no PE register changes. A bad tile is
its part's status, and in RUN the tile's side writes wait. Time running out takes the tiles not begun out of the queue. R566,
R605, R632, R690 to R693: SET_MODE to the mode in effect answers OK; a transition that R690 allows begins with the closing of
what it switches off, replies at once for SLEEP and else when MODE_TRANSITION_COMPLETE shows the new mode, which waits for the
network (R559) and for the closing. A wake tests the firmware's copy again and falls back to the golden image; a SET_MODE that
a fault abandoned replies WRONG_MODE. The writes held at the ports then take effect in their order, but for those that the
network still holds. -/
def Obligations.ParametersAndModes : Prop :=
  (
    (∀ (s t : State) (p : Port) (q : Request), q.op = 0x14 →
      let v := Via.ring p
      let n := q.arg 1
      let begun := (t.begin (jobOf q v [])).mapSys (fun y => { y with params := some { job := jobOf q v [], count := n, done := [], waiting := [] } })
      s.RowDoes t p q (.loadParams p q)
        { ver := 1,
          fields := q.len == 16 && decide (1 ≤ n) && decide (n ≤ 64) && q.addrOk 2 && decide (q.arg 15 < 65536)
            && (List.range n).all (fun i => t.keptPlanes.contains (q.arg 0 + i)),
          permit := (t.dramFor v q.sess (q.addr 2) (512 * n * (paramTiles q).length), 0),
          mode := [Mode.configure, .armed, .run].contains t.sys.mode, early := false } (
        if t.sof.result.isSome || t.sys.params.isSome then t.refuse v q .busy 0
        else (((paramTiles q).zipIdx).foldl (fun (s : State) e =>
          (s.paramTile (s.sessionSecure v q.sess) (q.addr 2) (q.arg 0) n e.2 e.1).2.paramNote e.1
            (s.paramTile (s.sessionSecure v q.sess) (q.addr 2) (q.arg 0) n e.2 e.1).1) begun).paramsEnd))
    ∧ (∀ (s u : State) (sec : Bool) (addr first n k l : Nat) (b : List Byte),
      (s.paramBar sec l ≠ .ok → s.paramTile sec addr first n k l = (some (s.paramBar sec l), s))
      ∧ (s.paramBar sec l = .ok → s.dramRead (addr + 512 * n * k) (512 * n) = (.ok, b, u) →
        (u.liveTile l = none → s.paramTile sec addr first n k l = (some .ok, u.paramDone l first (tilePlanes n b)))
        ∧ (∀ x, u.liveTile l = some x →
          (u.sys.mode ≠ .run → s.paramTile sec addr first n k l = (some .ok, (u.planesPut x first (tilePlanes n b)).paramDone l first
            (tilePlanes n b)))
          ∧ (u.sys.mode = .run → ∃ w, s.paramTile sec addr first n k l = (none, w) ∧ w.cv.mem = u.cv.mem
            ∧ w.cv.side = u.cv.side ++ (tilePlanes n b).zipIdx.map (fun e => ⟨x, true, first + e.2, e.1⟩)))))
    ∧ (∀ (s : State) (x first : Nat) (ps : List (BitVec 4096)), x < 272 → ∀ k : Nat, ∀ i < 1114112,
      (pget (s.planesPut x first ps).cv.mem k).getLsbD i = if peTile i = x then
        (if first ≤ k then match ps[k - first]? with | some d => d.getLsbD (64 * peSeg i + pePos i) | none => (pget s.cv.mem k).getLsbD i
          else (pget s.cv.mem k).getLsbD i)
        else (pget s.cv.mem k).getLsbD i)
    ∧ (∀ s : State, (s.sys.params = none → exec .loadParamsTimeout s = .next s)
      ∧ (∀ m, s.sys.params = some m → m.waiting = [] → exec .loadParamsTimeout s = .next s.paramsEnd)))
  ∧ (
    (∀ (s t : State) (p : Port) (q : Request), q.op = 0x03 → t.sys.mode = s.sys.mode →
      let v := Via.ring p
      let m := (modeOf (q.arg 0)).getD .run
      let u := if t.sys.mode = .armed then t.mapSys (fun y => { y with accepted := none }) else t
      let demand : Demand := { ver := 1, fields := q.len == 1 && decide (q.arg 0 < 6), permit := (.ok, 0), early := false,
                               mode := m == s.sys.mode || (canMove s.sys.mode m && (m != .armed || t.ready)) }
      let moves (x : State) (j : Option Job) : State := (x.mapSys (fun y => { y with transition := some (m, j) })).closeFor m 1
      s.RowDoes t p q (.setMode p q) demand (
        if m = t.sys.mode then t.answerTo v q .ok 0 []
        else if m = .armed && t.pairLost then t.answerTo v q .routeFault 0 []
        else if m = .sleep then moves (u.answerTo v q .ok 0 []) none
        else moves (u.begin (jobOf q v [])) (some (jobOf q v []))))
    ∧ (∀ s : State, s.sys.posted = [] →
      (s.sys.transition = none → exec .modeTransitionComplete s = .next s)
      ∧ (∀ m j, s.sys.transition = some (m, j) →
        ((s.turning = true ∧ s.netEmpty = false) ∨ s.closedFor m = false ∨ s.sys.shutdown = true) →
        exec .modeTransitionComplete s = .next s))
    ∧ (∀ (s : State) (m : Mode) (j : Option Job), s.sys.transition = some (m, j) → (s.turning = true → s.netEmpty = true) →
      s.closedFor m = true → s.sys.shutdown = false →
        let entered := (s.mapSys (fun y => { y with transition := none })).enterMode m
        let boots := if s.sys.mode = .sleep ∧ entered.firmwareGood = false then entered.goldenBoots else entered
        let told := boots.finish? j .ok 0 []
        let done := told.sys.abandoned.foldl (fun (x : State) k => x.finish k .wrongMode 0 [])
          (told.mapSys (fun y => { y with abandoned := [] }))
        let waking := if m = .sleep ∧ done.sys.wakeDue = true
          then done.mapSys (fun y => { y with wakeDue := false, transition := some (.standby, none) }) else done
        exec .modeTransitionComplete s = .next waking.landPosted ∧ (m ≠ .run → entered.sys.mode = m))
    ∧ (∀ s : State, (s.sys.mode = .sleep → s.landPosted = s)
      ∧ (s.sys.mode ≠ .sleep → s.landPosted = (s.mapSys (fun y => { y with posted := [] })).landAll s.sys.posted)
      ∧ s.landAll [] = s
      ∧ ∀ (p : Port) (c : BarWrite) (r : List (Port × BarWrite)), s.landAll ((p, c) :: r) = State.landAll (
        if s.barHeld p (s.writeTarget p c) then s.mapSys (fun y => { y with posted := y.posted ++ [(p, c)] }) else s.land1 (p, c)) r)
    ∧ (∀ (s : State) (p : Port) (v : Cont) (n : Nat) (w : Word) (u : Option Word) (off : Nat) (d : List Byte),
        s.land1 (p, .request v) = s.bellReq p v ∧ s.land1 (p, .semaphore n w u) = s.semWrite p n w u
        ∧ s.land1 (p, .memory off d) = (s.barSpend p (s.bar2Target p off d.length true)).bar2Write p off d))

/-- R519 to R522, R524, R636: BUDGET_GRANT takes effect at once, or in RUN with the next window, and a grant by a secure
session bars those that are not; RUN_START in ARMED records the run accepted unless something bars it; RUN_STOP in ARMED
withdraws it and in RUN waits for RUN_STOP_EFFECT, which completes a window access under way, stops the run and replies; a run
that a fault has ended before has its reply alone. -/
def Obligations.RunsAndBudgets : Prop :=
  ∀ (s t : State) (p : Port) (q : Request),
    let v := Via.ring p
    let sec := t.sessionSecure v q.sess
    let b : Budget := { allow := q.arg 0, window := q.arg 1, cap := fld (q.word 2) 0 9, ceil := fld (q.word 2) 9 2,
                        policy := fld (q.word 2) 11 2, secure := sec }
    let inRange : Bool := q.len == 3 && decide (q.arg 2 < 2 ^ 13) && decide (1 ≤ b.allow) && decide (b.window ≤ 10000)
      && decide (1 ≤ b.cap) && decide (b.cap ≤ 360) && decide (b.ceil < 3) && decide (1 ≤ b.policy)
    let u := t.mapFrk (fun f => { f with secured := f.secured || sec })
    (q.op = 0x20 → s.RowDoes t p q (.budgetGrant p q)
      { ver := 2, fields := inRange, permit := (if t.frk.secured && !sec then .denied else .ok, 0), mode := true, early := false }
      ((if t.sys.mode = .run then u.mapFrk (fun f => { f with next := some b }) else u.useBudget b).answerTo v q .ok 0 []))
    ∧ (q.op = 0x30 → s.RowDoes t p q (.runStart p q)
      { ver := 1, fields := q.len == 1, permit := (.ok, 0), mode := [Mode.armed].contains t.sys.mode, early := true }
      (if t.runBar ≠ .ok then t.answerTo v q t.runBar 0 []
        else (t.mapSys (fun y => { y with accepted := some (q.word 0) })).answerTo v q .ok 0 []))
    ∧ (q.op = 0x31 → s.RowDoes t p q (.runStop p q)
      { ver := 1, fields := q.len == 0, permit := (.ok, 0), mode := [Mode.armed, .run].contains t.sys.mode, early := false }
      (if t.sys.mode = .armed then (t.mapSys (fun y => { y with accepted := none })).answerTo v q .ok 0 []
        else (t.begin (jobOf q v [])).mapSys (fun y => { y with stopping := some (jobOf q v []) })))
    ∧ (s.sys.stopping = none → exec .runStopEffect s = .next s)
    ∧ (∀ j, s.sys.stopping = some j → s.sys.mode = .run →
      let t := (s.mapSys (fun y => { y with stopping := none })).lastWindow.stopRun .ok
      exec .runStopEffect s = .next (t.finish j .ok 0 []) ∧ t.sys.mode = .armed)
    ∧ (∀ j, s.sys.stopping = some j → s.sys.mode ≠ .run →
      exec .runStopEffect s = .next ((s.mapSys (fun y => { y with stopping := none })).finish j .ok 0 []))

/-- R629, R630, R652: ops 0 and 3 open a session and op 2 closes one with its claims; op 1 gives a nonce that replaces the
port's; an op 3 that reaches step 6 spends the nonce, and opens a secure session where its key and signature over the nonce,
the module's identity and the port pass. The number given is free among the unused (log entry 33), a nonce is a free value.
R555, R556, R585, R639, R640: CLAIM gives the session a resource that no other holds and that its bank, region and world
permit; RELEASE gives up one that it holds; PROBE_SET configures a probe that it holds, and in a trace mode takes the bank for
it, giving back any other that the probe had. -/
def Obligations.SessionsClaimsAndProbes : Prop :=
  (
    ∀ (s t : State) (p : Port) (q : Request), q.op = 0x60 →
      let v := Via.ring p
      let opened (u : State) (sec : Bool) (r : State) : Prop :=
        if 16 ≤ (u.port p).sessions.length then r = u.answerTo v q .busy 0 []
        else ∃ n, (u.port p).sessions.all (fun e => e.1 != n) = true ∧ 1 ≤ n ∧ n < 4096
          ∧ r = (u.drawn.setSessions p ((u.port p).sessions ++ [(n, sec)])).answerTo v q .ok 0 [BitVec.ofNat 24 n]
      let spent := t.mapPort p (fun h => { h with nonce := none })
      (q.arg 0 = 0 ∨ 3 < q.arg 0 → ∃ r, s.RowDoes t p q (.sessionOpenNonsecure p q) (plainDemand 3 (q.len == 1 && q.arg 0 == 0)) r ∧ opened t false r)
      ∧ (q.arg 0 = 1 ∨ 3 < q.arg 0 → ∃ n : BitVec 256, s.RowDoes t p q (.sessionOpenChallenge p q) (plainDemand 3 (q.len == 1 && q.arg 0 == 1))
        ((t.drawn.mapPort p (fun h => { h with nonce := some n })).answerTo v q .ok 0 (packBytes (leBytes 32 n.toNat))))
      ∧ (q.arg 0 = 2 ∨ 3 < q.arg 0 → s.RowDoes t p q (.sessionClose p q)
        (plainDemand 3 (q.len == 2 && q.arg 0 == 2 && (t.port p).sessions.any (fun e => e.1 == q.arg 1)))
        (((t.releaseAll (fun c => c.port == some p && c.sess == q.arg 1)).setSessions p
          ((t.port p).sessions.filter (fun e => e.1 != q.arg 1))).answerTo v q .ok 0 []))
      ∧ (q.arg 0 = 3 → s.interprets v = true → s.takePacket p q = (true, t) → t.check5 v q 3 = .ok →
        let c := t.check v q (plainDemand 3 (q.len == 24 && q.arg 0 == 3 && decide (q.arg 1 < 12)))
        (c.1 ≠ .ok → exec (.sessionOpenSecure p q) s = .next (spent.answerTo v q c.1 c.2 []))
        ∧ (c.1 = .ok → t.keyCheck p q ≠ .ok → exec (.sessionOpenSecure p q) s = .next (spent.answerTo v q (t.keyCheck p q) 0 []))
        ∧ (c.1 = .ok → t.keyCheck p q = .ok → ∃ r, exec (.sessionOpenSecure p q) s = .next r ∧ opened spent true r))
      ∧ ((t.port p).nonce = none → t.keyCheck p q = .badSignature))
  ∧ (
    ∀ (s t : State) (p : Port) (q : Request),
      let v := Via.ring p
      let c := q.arg 0
      let i := q.arg 1
      (q.op = 0x50 → s.RowDoes t p q (.claim p q)
        { ver := 1, fields := q.len == 2 && decide (i < classSize c), mode := true, early := false,
          permit := match t.heldBy v q.sess c i with
            | some d => (.resourceClaimed, d)
            | none => (if t.holds v q.sess c i then .ok else t.claimBar p (t.sessionSecure v q.sess) c i, 0) }
        ((if t.holds v q.sess c i then t else t.mapSys (fun y => { y with claims := y.claims ++ [⟨c, i, some p, q.sess⟩] })).answerTo v q
          .ok 0 []))
      ∧ (q.op = 0x51 → s.RowDoes t p q (.release p q)
        { ver := 1, fields := q.len == 2 && decide (i < classSize c), mode := true, early := false,
          permit := (if t.holds v q.sess c i then .ok else .denied, 0) } ((t.release c i).answerTo v q .ok 0 []))
      ∧ (q.op = 0x40 → let k := fld (q.word 0) 0 4
        let x := probeOf q
        let old := t.probe k
        s.RowDoes t p q (.probeSet p q)
          { ver := 1, fields := probeOk q, permit := t.probePermit v q, mode := true, early := false }
          ((if x.mode < 2 then t.setProbe k { x with bank := old.bank, prev := old.prev }
            else if old.bank = q.arg 3 then (t.setRfld bPH (0x100 + q.arg 3) 0 8 (0x30 + k)).setProbe k { x with
              bank := q.arg 3, prev := old.prev }
            else ((t.giveBank k).setRfld bPH (0x100 + q.arg 3) 0 8 (0x30 + k)).setProbe k { x with
              bank := q.arg 3, prev := (t.giveBank k).owner (q.arg 3) }).answerTo v q .ok 0 [])))

/-- R590, R632, R654 to R657, R667 to R669, R715: ATTEST and SEAL_RUN answer a signed report; WIPE zeroes the secure DRAM
regions and banks 56 to 63; LIFECYCLE replies, then burns an entry, wipes and resets the system; SELFTEST answers a status for
each test selected, UNCORRECTABLE for a unit that fails, and reports a tile that it finds (R697), where what it finds is free;
READBACK writes the frames of an ACTIVE region to DRAM, and is BUSY beside a load or a clearing. R568, R620, R637, R672, R673:
RESET of level 0 or 1 is DENIED while a secure session is open and the session is not; it replies, and once the reply stands
in the ring resets the core or the system. Of level 2 it stops the block's NIs from injecting and goes on as they fall idle,
ending with its registers reset and its NIs enabled; BLOCK_RESET_TIMEOUT ends one that does not, with TIMEOUT and its NIs as
they were. A core reset leaves RUN for ARMED and the sequencer at its core-reset or run-entry state, and keeps memories, OTP
and mode registers. -/
def Obligations.SecurityAndResetCommands : Prop :=
  (
    ∀ (s t : State) (p : Port) (q : Request),
      let v := Via.ring p
      let sec := t.sessionSecure v q.sess
      let needs : Status × Nat := (if sec then .ok else .denied, 0)
      let modes (l : List Mode) : Bool := l.contains t.sys.mode
      let burns (u : State) (n : Nat) (b : List Byte) : State := if (u.port p).replies.isEmpty then u.burn n b
        else u.mapSys (fun y => { y with resetDue := some (p, .life n b) })
      (q.op = 0x61 → s.RowDoes t p q (.attest p q) (plainDemand 3 (q.len == 11)) (t.answerTo v q .ok 0
        (reportWords (t.reportBody 1 (unpackBytes 32 q.words) (t.inEffect ((t.sys.record).getD RunRecord.none))))))
      ∧ (q.op = 0x62 → ∀ r, t.sealable (q.word 11) = some r → s.RowDoes t p q (.sealRun p q)
        { ver := 3, fields := q.len == 12, permit := (.ok, 0), mode := modes [.armed, .run], early := false }
        (t.answerTo v q .ok 0 (reportWords (t.reportBody 2 (unpackBytes 32 q.words) r))))
      ∧ (q.op = 0x63 → let u := if (q.word 0).getLsbD 1 then t.wipeDram else t
        let st : Status := if (q.word 0).getLsbD 1 && !t.secureSpans.all t.canWipe then .routeFault else .ok
        let j := jobOf q v [0, if (q.word 0).getLsbD 1 then st.code else 0xFF]
        s.RowDoes t p q (.wipe p q)
          { ver := 1, fields := q.len == 1 && decide (1 ≤ q.arg 0) && decide (q.arg 0 < 4), permit := needs,
            mode := modes [.standby, .configure, .maintenance], early := false }
          (if (q.word 0).getLsbD 0 then (u.wipeBanks.begin j).mapSys (fun y => { y with wipe := some j })
            else u.answerTo v q st 0 (partsPayload (q.w0.setWidth 24) [(1, st)] [])))
      ∧ (q.op = 0x64 → q.arg 0 ≠ 1 → s.RowDoes t p q (.lifecycle p q)
        { ver := 1, fields := q.len == 1, permit := needs, mode := modes [.standby, .maintenance], early := false }
        (if !lifeMove t.otp.lifecycle (q.arg 0) || (31 ≤ t.otp.log.length && q.arg 0 ≠ 4) then t.answerTo v q .lifecycle 0 []
          else burns (t.answerTo v q .ok 0 []) (q.arg 0) []))
      ∧ (q.op = 0x64 → q.arg 0 = 1 → ∀ st b u, t.dramRead (q.addr 1) (q.addr 3) = (st, b, u) → s.RowDoes t p q (.lifecycle p q)
        { ver := 1, fields := q.len == 5 && q.addrOk 1 && q.countOk 3, mode := modes [.standby, .maintenance], early := false,
          permit := if sec then (t.dramFor v q.sess (q.addr 1) (q.addr 3), 0) else (.denied, 0) }
        (if !lifeMove t.otp.lifecycle 1 || decide (31 ≤ t.otp.log.length) then t.answerTo v q .lifecycle 0 []
          else if st ≠ .ok then u.answerTo v q st 0 []
          else if !bundleOk b then u.answerTo v q .badParameter 0 []
          else burns (u.answerTo v q .ok 0 []) 1 b))
      ∧ (∀ n b, (s.burn n b).otp.lifecycle = n ∧ (s.burn n b).sys.boot = .reset ∧ (∀ a k, 56 ≤ a → (s.burn n b).cont a k = 0))
      ∧ (q.op = 0x71 → s.RowDoes t p q (.selftest p q)
        { ver := 1, fields := q.len == 1 && decide (q.arg 0 < 64), permit := (.ok, 0), mode := modes [.maintenance], early := false }
        ((t.tests ((List.range 6).filter (fun i => (q.word 0).getLsbD i))).2.answerTo v q
          (partsStatus (t.tests ((List.range 6).filter (fun i => (q.word 0).getLsbD i))).1).1
          (partsStatus (t.tests ((List.range 6).filter (fun i => (q.word 0).getLsbD i))).1).2
          (partsPayload (q.w0.setWidth 24) (t.tests ((List.range 6).filter (fun i => (q.word 0).getLsbD i))).1 [])))
      ∧ (∀ i, t.unitFails i = true → (t.test i).1 = .uncorrectable)
      ∧ (match t.tileFound with
        | some x => x ∈ t.testedTiles ∧ t.test 0 = (.uncorrectable, t.drawn.drawn.report (.tile (x / 16) (x % 16)))
        | none => t.test 0 = (if t.unitFails 0 then .uncorrectable else .ok, t.drawn.drawn))
      ∧ (q.op = 0x72 → let r := q.arg 0
        s.RowDoes t p q (.readback p q)
          { ver := 1, fields := q.len == 3 && decide (r < 16) && q.addrOk 1, early := false,
            permit := (if !sec && t.regionWorld r then .denied else t.dramFor v q.sess (q.addr 1) (528 * 3584), 0),
            mode := modes [.configure, .armed, .run, .maintenance] && (t.rstate r == 3 || t.clearing (clearRegion r))
              && !(t.critical r && t.seq.locked) }
          (if t.tw.load.isSome || t.clearing (clearRegion r) then t.answerTo v q .busy 0 []
            else ((t.readbackFrames r (q.addr 1) 0 3584).setTwc false 3 r .ok).answerTo v q .ok 0 [])))
  ∧ (
    (∀ (s t : State) (p : Port) (q : Request), q.op = 0x70 →
      let v := Via.ring p
      let may : Status × Nat := (if t.anySecure && !t.sessionSecure v q.sess then .denied else .ok, 0)
      let plain (k : Nat) : Demand := { ver := 1, fields := q.len == 1 && q.arg 0 == k && q.block == 0, permit := may, mode := true, early := false }
      let told := t.answerTo v q .ok 0 []
      let after (k : DueReset) (r : State) : State := if (told.port p).replies.isEmpty then r
        else told.mapSys (fun y => { y with resetDue := some (p, k) })
      (q.arg 0 = 0 ∨ 2 < q.arg 0 → s.RowDoes t p q (.resetCore p q) (plain 0)
        (after .core ((told.setRfld bRST 0 5 1 1).cutCommands.coreReset)))
      ∧ (q.arg 0 = 1 ∨ 2 < q.arg 0 → s.RowDoes t p q (.resetSystem p q) (plain 1) (after .system (told.systemReset 4)))
      ∧ (q.arg 0 = 2 ∨ 2 < q.arg 0 → s.RowDoes t p q (.resetBlock p q)
        { ver := 1, fields := q.len == 1 && q.arg 0 == 2 && q.block != 0, mode := true, early := false,
          permit := (if !t.sessionSecure v q.sess && (q.block == bSEC || (blockNis q.block).any t.niWorld) then .denied else .ok, 0) }
        ((t.begin (jobOf q v (q.block :: t.niBits q.block))).setInj q.block 0).resetPoll))
    ∧ (∀ (s : State) (j : Job) (b : Nat) (l : List Nat), s.resetJob = some j → j.args = b :: l →
      let quiet (lo : Nat) : Prop := ∀ n ∈ blockNis b, s.rfld bNOC (0x100 + n) lo 5 = 0
      (quiet 5 → quiet 0 → s.resetPoll = ((((s.setEj b 0).blockReset b).setEj b 1).setInj b 1).finish j .ok 0 [])
      ∧ (¬ quiet 5 → s.resetPoll = s) ∧ (quiet 5 → ¬ quiet 0 → s.resetPoll = s.setEj b 0)
      ∧ exec .blockResetTimeout s = .next ((s.niBitsBack b l).finish j .timeout 0 [])
      ∧ (∀ k n v : Nat, (blockNis b)[k]? = some n → l[k]? = some v → v < 4 → (s.niBitsBack b l).rfld bNOC (0x100 + n) 22 2 = v))
    ∧ (∀ s : State, s.resetJob = none → exec .blockResetTimeout s = .next s)
    ∧ (∀ s : State, (s.sys.mode ≠ .run → s.coreReset.sys.mode = s.sys.mode) ∧ (s.sys.mode = .run → s.coreReset.sys.mode = .armed)
      ∧ (s.sys.mode ≠ .run → s.sys.mode ≠ .armed → s.coreReset.seq = s.seq.core)
      ∧ ((s.sys.mode = .armed ∨ s.sys.mode = .run) → s.coreReset.seq = s.seq.core.atEntry s.sys.entry)
      ∧ s.coreReset.otp = s.otp ∧ s.coreReset.smem = s.smem
      ∧ (s.arr.run = none → s.arr.pipe = [] → s.coreReset.cv.mem = s.cv.mem ∧ (s.sys.mode ≠ .run → s.coreReset.mem = s.mem))))

/-- R512, R513, R518, R530, R540: while the meter's firmware runs, a sample shows module power, array power and junction
temperature in their registers and charges its energy to the ledger, in RUN to the run, the window and its section as well; it
counts BOOST time, and every hour opens a new bin. FRK_ELO's read latches FRK_EHI; a boost save keeps the bins; without its
firmware nothing is metered. R507 to R509, R519 to R529, R535: with the start of a window, due in RUN when the one before has
had its length, what the last window has charged, OVER and VARIANT and the deadtime end, and a waiting budget comes into
effect; a spill starts once its lead time is over; a voltage reached, or not confirmed, ends its ramp, and the divider then
switches to the target's clock point after 64 idle cycles, unless a trip, a locked section, the voltage or a macro held by a
window access bars it. -/
def Obligations.MeterFollowsSamplesAndTarget : Prop :=
  (
    ∀ (s : State) (m : Sample),
      (s.metering = false → exec (.frankingSample m) s = .next s)
      ∧ (s.metering = true → ∃ t : State, exec (.frankingSample m) s = .next t
        ∧ (t.reg bFRK 1).toNat = min 0xFFFFFF m.rails.sum ∧ (t.reg bFRK 2).toNat = min 0xFFFFFF ((m.rails.head?).getD 0)
        ∧ t.reg bFRK 3 = m.tj.setWidth 24
        ∧ t.frk.total = s.frk.total + m.rails.sum
        ∧ t.frk.run = (if s.sys.mode = .run then s.frk.run + m.rails.sum else s.frk.run)
        ∧ t.frk.charged = (if s.sys.mode = .run then s.frk.charged + (m.rails.head?).getD 0 else s.frk.charged)
        ∧ t.frk.samples = s.frk.samples + 1 ∧ t.frk.tjSum = s.frk.tjSum + m.tj.toInt ∧ t.frk.tjCount = s.frk.tjCount + 1
        ∧ t.frk.coolSamples = (if m.tj.toInt ≤ 1520 then s.frk.coolSamples + 1 else 0) ∧ t.frk.beatHz = m.beatHz
        ∧ t.cv = s.cv ∧ t.smem = s.smem ∧ t.otp = s.otp)
      ∧ exec .frkEloRead s = .next (s.setReg bFRK 5 (BitVec.ofNat 24 (s.frk.total / 100000 % 2 ^ 48 / 2 ^ 24)))
      ∧ exec .boostWearSave s = .next (s.mapFrk (fun f => { f with saved := f.bins }))
      ∧ (∀ (f : Franking) (b : Bool), (f.wearTick b).boostSamples = (if b then (f.boostSamples + 1) % 100000 else f.boostSamples)
        ∨ 100000 ≤ f.boostSamples)
      ∧ (∀ (f : Franking) (b : Bool), f.hourSamples + 1 = 360000000 → (f.wearTick b).bins.head? = some 0 ∧ (f.wearTick b).hours = f.hours + 1
        ∧ (f.wearTick b).hourSamples = 0))
  ∧ (
    ∀ s : State,
      (s.budgetDue = true → s.frk.next = none → ∃ t : State, exec .budgetWindowStart s = .next t
        ∧ t.frk.charged = 0 ∧ t.frk.window = 0 ∧ t.frk.windowSamples = 0 ∧ t.out.deadtime = false
        ∧ t.frkBit 15 = false ∧ t.frkBit 16 = false ∧ t.frkBit 17 = false ∧ t.frk.budget = s.frk.budget ∧ t.cv = s.cv ∧ t.mem = s.mem)
      ∧ (s.budgetDue = true → ∀ b, s.frk.next = some b → ∃ t : State, exec .budgetWindowStart s = .next t ∧ t.frk.budget = some b ∧ t.frk.next = none)
      ∧ (s.budgetDue = false → exec .budgetWindowStart s = .next s)
      ∧ (∀ b, s.sys.mode = .run → s.frk.budget = some b → b.window ≠ 0 → s.frk.windowLength b ≤ s.frk.windowSamples + 1 → s.budgetDue = true)
      ∧ (s.frk.spillDue = true → s.frk.spill = false →
        exec .spillStart s = .next (s.mapFrk (fun f => { f with spill := true, spillDue := false })).retarget)
      ∧ ((s.frk.spillDue = false ∨ s.frk.spill = true) → exec .spillStart s = .next (s.mapFrk (fun f => { f with spillDue := false })))
      ∧ (∀ c, s.frk.ramp = some c → exec .avsStatus s = .next (s.mapFrk (fun f => { f with ramp := none, vdd := volts c }))
        ∧ exec .avsTimeout s = .next ((s.mapFrk (fun f => { f with ramp := none, held := some (c - 1) })).retarget))
      ∧ (s.frk.ramp = none → exec .avsStatus s = .next s ∧ exec .avsTimeout s = .next s)
      ∧ ((s.cp = s.target ∨ s.frkBit 13 = true ∨ s.seq.locked = true ∨ s.frk.vdd < volts s.target ∨ s.insideMacro = true) → exec .dividerSwitch s = .next s)
      ∧ (s.cp ≠ s.target → s.frkBit 13 = false → s.seq.locked = false → volts s.target ≤ s.frk.vdd → s.insideMacro = false → ∃ t : State,
        exec .dividerSwitch s = .next t
        ∧ t.cp = s.target ∧ t.frk.vdd = volts s.target ∧ t.frk.ramp = none ∧ t.out.thermal = false ∧ t.period + t.frk.steps ≤ 20))

/-- R534 to R538: a thermal trip sets TRIP and the target THERMAL FALLBACK, makes BUSY's THERMAL cause, counts and reports,
and sets TIMING_LOST in a locked section; the switch then takes the clock point down; 100 ms cool end it. A shutdown gates
every domain and drops the links until a reset, and every run is lost. The current limiter counts an event and stretches the
period by one step, up to a period of 2.5 ns, a bound that holds at THERMAL FALLBACK as well, and takes the steps off again.
-/
def Obligations.LimitsProtect : Prop :=
  ∀ s : State,
    (s.frkBit 13 = true → exec .thermalTrip s = .next s)
    ∧ (s.frkBit 13 = false → ∃ t : State, exec .thermalTrip s = .next t ∧ t.frkBit 13 = true ∧ t.target = 3 ∧ t.cp = s.cp ∧ t.out.thermal = true
      ∧ t.frk.trips = s.frk.trips + 1 ∧ t.frk.tripPending = true ∧ t.seq.tl = (s.seq.tl || s.seq.locked) ∧ t.cv = s.cv)
    ∧ ((s.frk.tripPending = false ∨ s.insideMacro = true) → exec .thermalFallbackSwitch s = .next s)
    ∧ (s.frk.tripPending = true → s.insideMacro = false → ∃ t : State, exec .thermalFallbackSwitch s = .next t ∧ t.cp = 3 ∧ t.frk.tripPending = false ∧ t.frk.vdd = 650
      ∧ t.frk.steps = 0)
    ∧ (s.frkBit 13 = true → s.cp = 3 → s.frk.tripPending = false → 10000 ≤ s.frk.coolSamples → ∃ t : State,
      exec .thermalRecovery s = .next t ∧ t.frkBit 13 = false ∧ t.cp = 3 ∧ t.cv = s.cv ∧ t.mem = s.mem)
    ∧ ((s.frkBit 13 = false ∨ s.cp ≠ 3 ∨ s.frk.tripPending = true ∨ s.frk.coolSamples < 10000) → exec .thermalRecovery s = .next s)
    ∧ (s.sys.shutdown = true → exec .thermalShutdown s = .next s)
    ∧ (s.sys.shutdown = false → ∃ t : State, exec .thermalShutdown s = .next t ∧ t.sys.shutdown = true ∧ t.sys.on = 0 ∧ t.cv.power = 0
      ∧ (∀ p, (t.port p).link = false) ∧ t.out.thermal = true ∧ t.out.fault = true ∧ (t.reg bRST 0).getLsbD 9 = true
      ∧ t.sys.mode = (if s.sys.mode = .run then .armed else s.sys.mode) ∧ t.sys.accepted = none ∧ t.sys.held = []
      ∧ (∀ r, t.sys.record = some r → r.open_ = false) ∧ t.otp = s.otp)
    ∧ (20 ≤ s.period + s.frk.steps → exec .currentLimit s = .next s)
    ∧ (s.period + s.frk.steps < 20 → ∃ t : State, exec .currentLimit s = .next t ∧ t.frkBit 14 = true ∧ t.frk.steps = s.frk.steps + 1 ∧ t.seq.tl = (s.seq.tl || s.seq.locked)
      ∧ t.reg bFRK 8 = (if s.frkBit 14 then s.reg bFRK 8 else satAdd (s.reg bFRK 8) 1) ∧ t.cv = s.cv ∧ t.mem = s.mem)
    ∧ (∃ t : State, exec .limitStepRemove s = .next t ∧ t.frk.steps = min (s.frk.steps - 1) (20 - s.period)
      ∧ t.frkBit 14 = (s.frkBit 14 && decide (t.frk.steps ≠ 0))
      ∧ t.cv = s.cv ∧ t.mem = s.mem)

/-- R530, R659, R670 to R672, R684, R725: POWER_ON_RESET and BROWN_OUT take the module to its power-on state with the
non-volatile state kept and a minute added to the current wear bin; SYSTEM_RESET, the watchdog and a loss of lock of the
Canvas, NoC or DRAM PLL reset the system, with level P registers, timing, tile memory and the ledger kept; a tamper trip wipes
and resets. Each sets its bit of RST_CAUSE. A loss of a port's PCIe PLL takes that port's link down as its reset does. R98,
R536, R574, R583, R664, R677 to R680, R694, R695: START_UP after a reset, once a module that was shut down has cooled,
measures the strap, zeroes DRAM and the pigeonhole banks and brings up the links, and the golden firmware runs where the flash
is the boot source and the firmware passes its check, with the failing tiles' rows out of service; a failed check ends the
boot. With a host as source the ROM waits for its image, whose length on a permitted port boots it when it passes, and which a
failed check or BOOT_TIMEOUT replaces with the golden one. While the NoC has no clock the start-up waits for it. -/
def Obligations.ResetsAndStartUp : Prop :=
  (
    ∀ s : State,
      let power (c : Instr) (bit : Nat) : Prop := ∃ t : State, exec c s = .next t ∧ (t.reg bRST 0).toNat = 2 ^ bit ∧ t.otp = s.otp
        ∧ t.frk.bins = addMinute s.frk.saved ∧ t.seq = State.reset.seq ∧ t.tim = State.reset.tim ∧ t.sys = { State.reset.sys with hot := s.sys.shutdown || s.sys.hot }
        ∧ t.cv.mem = s.cv.mem ∧ t.lanes = State.reset.lanes ∧ t.pending = s.pending
      let system (c : Instr) (bit : Nat) : Prop := ∃ t : State, exec c s = .next t
        ∧ (∀ i < 24, (t.reg bRST 0).getLsbD i = (decide (i = bit) || (s.reg bRST 0).getLsbD i))
        ∧ (∀ b o r, regSpec b o = some r → r.sys = true → b < 0x1000 → o < 0x100000 → t.reg b o = BitVec.ofNat 24 r.reset)
        ∧ t.seq = State.reset.seq ∧ t.tim = s.tim ∧ t.cv.mem = s.cv.mem ∧ t.frk.total = s.frk.total ∧ t.sys.boot = .reset
        ∧ t.sys.mode = State.reset.sys.mode ∧ t.lanes = State.reset.lanes ∧ t.pending = s.pending
      power .powerOnReset 0 ∧ power .brownOut 1 ∧ system .systemReset 2
      ∧ (s.sys.mode ≠ .sleep → s.sys.boot ≠ .reset → system .watchdogExpiry 3)
      ∧ ((s.sys.mode = .sleep ∨ s.sys.boot = .reset) → exec .watchdogExpiry s = .next s)
      ∧ (s.sys.boot ≠ .reset → system (.pllLossOfLock none) 11)
      ∧ (s.sys.boot ≠ .reset → ∀ p, exec (.pllLossOfLock (some p)) s = .next ((s.mapPort p (fun h => { h with pll := false })).portReset p))
      ∧ (s.sys.boot = .reset → ∀ x, exec (.pllLossOfLock x) s = .next s)
      ∧ (∀ n : Fin 3, system (.tamperTrip n) 8 ∧ ∃ t : State, exec (.tamperTrip n) s = .next t ∧ (t.reg bSEC 0x060).getLsbD (23 - n) = true
        ∧ t.otp.tampers = (if s.otp.tampers = BitVec.allOnes 16 then s.otp.tampers else s.otp.tampers + 1)))
  ∧ (
    ∀ (s : State) (e : StartUp),
      let golden : Status := firmwareCheck s.otp s.otp.goldenFirmware
      (s.sys.boot ≠ .reset → exec (.startUp e) s = .next s)
      ∧ (s.sys.hot = true → 1520 < e.tj.toInt → exec (.startUp e) s = .next s)
      ∧ (s.sys.boot = .reset → (s.sys.hot = false ∨ e.tj.toInt ≤ 1520) → s.sys.strapped = false → ∃ t : State,
        exec (.startUp e) s = .next t
        ∧ fld (t.reg bRST 1) 0 4 = strapCode e.strapMv ∧ fld (t.reg bRST 1) 11 11 = min 2047 e.strapMv
        ∧ t.sys.strapped = true ∧ t.sys.hot = false ∧ (t.port .a).link = true
        ∧ (s.sys.noClock.contains 353 = false → s.sys.held.contains 353 = false → bootSource (strapCode e.strapMv) ≠ 0 → t.sys.boot = .host e
          ∧ t.mem.dram = [] ∧ t.mem.ph = [] ∧ t.mem.dramBad = [] ∧ t.mem.phBad = [] ∧ t.seq = s.seq ∧ t.smem = s.smem)
        ∧ (s.sys.noClock.contains 353 = false → s.sys.held.contains 353 = false → bootSource (strapCode e.strapMv) = 0 → golden ≠ .ok → t.sys.boot = .failed)
        ∧ (s.sys.noClock.contains 353 = false → s.sys.held.contains 353 = false → bootSource (strapCode e.strapMv) = 0 → golden = .ok → t.sys.boot = .done ∧ t.cv.failed = failedRows e
          ∧ t.sys.mFw = firmwareDigest s.otp.goldenFirmware ∧ (e.untrained = 0 → t.mem.dram = [] ∧ t.mem.dramBad = [] ∧ t.smem = s.smem)))
      ∧ (∀ (p : Port) (v : Word), s.awake p = true → s.sys.transition = none → s.sys.boot = .host e → s.bootPort p = true →
        let b := sget [] s.sys.staged 5
        let n := fld v 0 22
        let img := (b ++ List.replicate (n - b.length) 0).take n
        ∃ t : State, exec (.rstBootlenWrite p v) s = .next t
          ∧ (firmwareCheck s.otp img = .ok → img ≠ [] → t.sys.boot = .done ∧ t.committedImage 0 = img ∧ t.sys.mFw = firmwareDigest img)
          ∧ (firmwareCheck s.otp img ≠ .ok → t.sys.boot = (if golden = .ok then .done else .failed) ∧ (t.reg bRST 0).getLsbD 12 = true))
      ∧ (s.sys.boot = .host e → ∃ t : State, exec .bootTimeout s = .next t ∧ t.sys.boot = (if golden = .ok then .done else .failed)
        ∧ (t.reg bRST 0).getLsbD 12 = true)
      ∧ ((s.sys.boot = .done ∨ s.sys.boot = .failed) → exec .bootTimeout s = .next s))

/-- R672, R698 to R702, R715: SEQUENCER_FAULT, once the fault manager runs, takes the oldest report and ends every command in
progress: the first of a run restarts it from its checkpoint with PE registers cleared and no side access left; a second ends
it and reports; outside RUN the core is reset; with the Canvas out of service nothing restarts (R97). CHECKPOINT_RESTART at a
beat lets the restarted program go on. R90 to R97, R697, R703: TILE_POWER_GOOD_LOSS takes a tile's power and memory and
reports a fault of its tile; TILE_ROW_REPAIR takes the oldest report of a tile: its row leaves service, the rows that remain
carry the logical ones, and with none left every tile is off and the part is out of service. R708 to R711: a service core that
misses its heartbeats or meets an uncorrectable error fails: the first since a system reset hands its function to the next
core and is reported, a later one leaves its function without a core, and its domain goes off once its NI is quiet; a core
that is down already stays so. -/
def Obligations.FaultManagerRecovers : Prop :=
  (
    ∀ (s : State) (cause : Nat) (memory : Bool) (rest : List Fault1),
      (s.functionUp 3 = false → exec .sequencerFault s = .next s)
      ∧ (s.functionUp 3 = true → s.sys.faults = .sequencer cause memory :: rest → s.tw.load = none → s.sof.result = none →
        ∃ t : State, exec .sequencerFault s = .next t ∧ (t.reg bRST 0).getLsbD 6 = true
          ∧ t.smem = s.smem ∧ (∀ p, (t.port p).jobs = [])
          ∧ t.sys.commit = none ∧ t.sys.params = none ∧ t.sys.transition = none
          ∧ (s.arr.run = none → s.arr.pipe = [] → t.cv.mem = s.cv.mem ∧ t.sys.faults = rest.filter (fun f => !Fault1.isSeq f))
          ∧ (lrows s.cv.failed = 0 → t.sys.mode = s.sys.mode ∧ t.seq = s.seq)
          ∧ (lrows s.cv.failed ≠ 0 → s.sys.mode = .run → s.sys.faulted = true → t.sys.mode = .armed
            ∧ (s.arr.run = none → s.arr.pipe = [] →
              t.seq = { s.seq.atEntry s.sys.entry with ipend := (s.seq.atEntry s.sys.entry).ipend ||| 1 }))
          ∧ (lrows s.cv.failed ≠ 0 → s.sys.mode = .run → s.sys.faulted = false → t.sys.mode = .run ∧ t.cv.side = [] ∧ t.sys.faulted = true
            ∧ (t.sys.faults = [] → t.sys.restart = true ∧ t.seq.rst = true
              ∧ (∀ pc tag world priv, s.sys.checkpoint = some (pc, tag, world, priv) → t.seq.pc = pc ∧ t.seq.rstart = tag
                ∧ t.seq.world = world ∧ t.seq.priv = priv)))
          ∧ (s.sys.mode ≠ .run → t.sys.mode = s.sys.mode))
      ∧ (s.sys.mode = .run → s.sys.restart = true → s.sys.faults = [] → s.tim.present = true → ∃ t : State,
        exec .checkpointRestart s = .next t ∧ t.sys.restart = false ∧ t.out.fault = false ∧ t.seq.bphase = 0 ∧ t.seq.pc = s.seq.pc
        ∧ t.smem = s.smem)
      ∧ ((s.sys.mode ≠ .run ∨ s.sys.restart = false ∨ s.sys.faults ≠ [] ∨ s.tim.present = false) → exec .checkpointRestart s = .next s))
  ∧ (
    (∀ (s : State) (n : Fin 272), ∃ t : State, exec (.tilePowerGoodLoss n) s = .next t ∧ t.cv.power = setBit s.cv.power n false
      ∧ t.sys.faults = s.sys.faults ++ [.tile (n / 16) (n % 16)] ∧ t.out.fault = true
      ∧ t.cv.lost.getLsbD n = (s.cv.lost.getLsbD n || s.cv.power.getLsbD n)
      ∧ (∀ k, pget t.cv.mem k &&& tilesPlane (BitVec.ofNat 272 (2 ^ n.val)) = 0) ∧ t.seq = s.seq ∧ t.mem = s.mem)
    ∧ (∀ (s : State) (row col : Nat) (rest : List Fault1), s.functionUp 3 = true → s.sys.faults = .tile row col :: rest →
      (s.cv.failed.contains row = true → exec .tileRowRepair s = .next (s.dropFaults (fun f => f.inRow row)).recovered)
      ∧ (s.cv.failed.contains row = false → ∃ t : State, exec .tileRowRepair s = .next t ∧ t.cv.failed = s.cv.failed ++ [row]
        ∧ t.smem.imem = s.smem.imem ∧ (lrows (s.cv.failed ++ [row]) = 0 → t.cv.power = 0 ∧ t.out.fault = true)))
    ∧ (∀ s : State, s.sys.faults = [] → exec .tileRowRepair s = .next s ∧ exec .sequencerFault s = .next s))
  ∧ (
    ∀ (s : State) (n : Fin 4),
      let both (t : State) : Prop := exec (.heartbeatMissed n) s = .next t ∧ exec (.serviceCoreUncorrectableError n) s = .next t
      let down := (s.mapSys (fun y => { y with coresUp := setBit y.coresUp n false })).gateOff (348 + n)
      (s.sys.coresUp.getLsbD n = false → both s)
      ∧ (s.sys.coresUp.getLsbD n = true → s.sys.takenOver = true → both down)
      ∧ (s.sys.coresUp.getLsbD n = true → s.sys.takenOver = false → 2 ≤ n.val →
        both ((down.mapSys (fun y => { y with takenOver := true, runBy := y.runBy.set n ((n + 1) % 4) })).notice 0x0A n .ok 0))
      ∧ (s.sys.coresUp.getLsbD n = true → s.sys.takenOver = false → ∃ t, both t ∧ t.sys.takenOver = true
        ∧ t.sys.coresUp.getLsbD n = false ∧ t.seq = (s.raiseLine 0).seq ∧ t.smem = s.smem))

/-- R681, R737, R738: each test-port instruction becomes current, and an opcode that the table does not list as BYPASS does; a
boundary-scan one also ends any run as RUN_STOP does and bars runs until a reset. DEBUG gives a challenge, and a signature
over it that the policy permits wipes the secrets and unlocks the port; only DEBUG with the port unlocked gives debug access.
-/
def Obligations.TestPortInstructions : Prop :=
  ∀ s : State,
    let now (i : BitVec 8) : State := s.mapSys (fun y => { y with jtag := i })
    let scans (c : Instr) (i : BitVec 8) : Prop :=
      exec c s = .next ((if s.sys.mode = .run then (now i).lastWindow.stopRun .ok else now i).mapSys (fun y => { y with
        jtagLock := true, accepted := none }))
    scans .extest 0x00 ∧ scans .clamp 0x03 ∧ scans .highz 0x04 ∧ scans .extestPulse 0x05 ∧ scans .extestTrain 0x06
    ∧ exec .samplePreload s = .next (now 0x01) ∧ exec .idcode s = .next (now 0x02)
    ∧ (now 0x02).jtagData = some idcodeWord
    ∧ (∀ op : BitVec 8, (op = 0xFF ∨ (6 < op.toNat ∧ op ≠ 0x10)) → exec (.bypass op) s = .next (now op) ∧ (now op).jtagData = some 0)
    ∧ (∃ c : BitVec 256, exec (.debug none) s = .next (s.drawn.mapSys (fun y => { y with jtag := 0x10, challenge := some c })))
    ∧ (∀ d : DebugSig, let spent := s.mapSys (fun y => { y with challenge := none })
      (∀ c k, s.sys.challenge = some c → s.otp.sessionKey d.key.toNat = some k → s.debugPermitted d.key.toNat = true →
        Config.edVerify k (leBytes 32 c.toNat) d.sig = true →
        exec (.debug (some d)) s = .next (spent.wipeBanks.wipeDram.mapSys (fun y => { y with debug := true, jtag := 0x10 })))
      ∧ ((s.sys.challenge = none ∨ s.otp.sessionKey d.key.toNat = none ∨ s.debugPermitted d.key.toNat = false
          ∨ (∀ c k, s.sys.challenge = some c → s.otp.sessionKey d.key.toNat = some k →
            Config.edVerify k (leBytes 32 c.toNat) d.sig = false)) →
        exec (.debug (some d)) s = .next (spent.mapSys (fun y => { y with jtag := 0x10 }))))
    ∧ (now 0x10).debugAccess = s.sys.debug ∧ (∀ i, i ≠ 0x10 → (now i).debugAccess = false)
    ∧ idcodeWord.getLsbD 0 = true ∧ idcodeWord.extractLsb' 12 16 = 0x7700#16 ∧ idcodeWord.extractLsb' 28 4 = (if Config.revA1 then 1 else 0)
end

