-- ==== Sys2Proof/Laws/Bits.lean ====
section
/-! SUPPORT. Bits of built words, planes and tiles: what each bit of a value that the model builds bit by bit is. -/

namespace Sys2Proof.Machine

theorem getLsbD_bitsOf (n : Nat) (p : Nat → Bool) (i : Nat) : (bitsOf n p).getLsbD i = (decide (i < n) && p i) := by
  induction n with
  | zero => simp [bitsOf]
  | succ k ih =>
    rw [bitsOf, BitVec.getLsbD_cons]
    by_cases h : i = k
    · subst h
      simp
    · rw [if_neg h, ih]
      by_cases hk : i < k
      · simp [hk, Nat.lt_succ_of_lt hk]
      · have : ¬ i < k + 1 := by omega
        simp [hk, this]

theorem getLsbD_planeOf (p : Nat → Bool) (i : Nat) : (planeOf p).getLsbD i = (decide (i < numPE) && p i) := getLsbD_bitsOf _ _ _

theorem getLsbD_tilesPlane (ts : BitVec 272) (i : Nat) :
    (tilesPlane ts).getLsbD i = (decide (i < numPE) && ts.getLsbD (peTile i)) := getLsbD_planeOf _ _

theorem getLsbD_blend (e new old : Plane) (i : Nat) (h : i < numPE) :
    (blend e new old).getLsbD i = if e.getLsbD i then new.getLsbD i else old.getLsbD i := by
  simp only [blend, BitVec.getLsbD_or, BitVec.getLsbD_and, BitVec.getLsbD_not]
  cases e.getLsbD i <;> simp [h]

theorem getLsbD_tilePut (p : Plane) (t : Nat) (d : BitVec 4096) (i : Nat) (h : i < numPE) :
    (tilePut p t d).getLsbD i = if peTile i = t then d.getLsbD (64 * peSeg i + pePos i) else p.getLsbD i := by
  rw [tilePut, getLsbD_planeOf]
  simp only [h, decide_true, Bool.true_and]

/-- A PE's tile, segment and position name it. -/
theorem peAt_parts (i : Nat) : peAt (peTile i) (peSeg i) (pePos i) = i := by
  unfold peAt peTile peSeg pePos
  omega

theorem peTile_peAt (t g p : Nat) (hg : g < 64) (hp : p < 64) : peTile (peAt t g p) = t := by
  unfold peAt peTile
  omega

theorem getLsbD_tileGet (p : Plane) (t j : Nat) (h : j < 4096) :
    (tileGet p t).getLsbD j = p.getLsbD (peAt t (j / 64) (j % 64)) := by
  rw [tileGet, getLsbD_bitsOf]
  simp only [h, decide_true, Bool.true_and]

theorem fld_lt {n : Nat} (w : BitVec n) (lo len : Nat) : fld w lo len < 2 ^ len := Nat.mod_lt _ (Nat.two_pow_pos len)

end Sys2Proof.Machine
end

