-- ==== Sys2Proof/Laws/HostWrites.lean ====
section
/-! SUPPORT. BAR accesses: what a write at a port does, awake or in SLEEP, and what letting the held writes go does (R692). -/

namespace Sys2Proof.Machine

/-- A write that reaches the module takes its tokens and has its effect. -/
theorem State.atPort_reaches (s : State) (p : Port) (c : BarWrite) (act : State → State)
    (h : s.awakeTo p (s.writeTarget p c) = true) : s.atPort p c act = (act (s.barSpend p (s.writeTarget p c))).wake := by
  have h1 : s.portOn p = true := by simp only [State.awakeTo, Bool.and_eq_true] at h; exact h.1.1
  simp [State.atPort, h, h1]

/-- So has a write that goes to no memory. -/
theorem State.atPort_awake (s : State) (p : Port) (c : BarWrite) (act : State → State) (h : s.awake p = true)
    (hc : s.writeTarget p c = none) : s.atPort p c act = (act s).wake := by
  have := State.atPort_reaches s p c act (by rw [hc]; exact h)
  rw [this, hc]; rfl

/-- One that does not is held at the port, and in SLEEP a wake starts. -/
theorem State.atPort_held (s : State) (p : Port) (c : BarWrite) (act : State → State) (ho : s.portOn p = true)
    (h : s.awakeTo p (s.writeTarget p c) = false) :
    s.atPort p c act = (s.mapSys (fun y => { y with posted := y.posted ++ [(p, c)] })).wake := by
  simp [State.atPort, ho, h]

/-- In SLEEP every write is held. -/
theorem State.atPort_sleep (s : State) (p : Port) (c : BarWrite) (act : State → State) (ho : s.portOn p = true)
    (hm : s.sys.mode = .sleep) : s.atPort p c act = (s.mapSys (fun y => { y with posted := y.posted ++ [(p, c)] })).wake :=
  State.atPort_held s p c act ho (by simp [State.awakeTo, hm])

/-- A port that is not on takes nothing. -/
theorem State.atPort_down (s : State) (p : Port) (c : BarWrite) (act : State → State) (h : s.portOn p = false) :
    s.atPort p c act = s := by simp [State.atPort, h]

/-- A wake that no transition into SLEEP precedes changes nothing outside SLEEP. -/
theorem State.wake_idle (s : State) (hm : s.sys.mode ≠ .sleep) (ht : s.sys.transition = none) : s.wake = s := by
  unfold State.wake
  split <;> simp_all

/-- With nothing held, nothing lands. -/
theorem State.landPosted_none (s : State) (h : s.sys.posted = []) : s.landPosted = s := by
  unfold State.landPosted
  split
  · rfl
  · rw [h, State.landAll]
    show { s with sys := { s.sys with posted := [] } } = s
    rw [← h]

/-- Outside SLEEP the writes held land in their order, each that nothing holds any more. -/
theorem State.landPosted_awake (s : State) (hm : s.sys.mode ≠ .sleep) :
    s.landPosted = (s.mapSys (fun y => { y with posted := [] })).landAll s.sys.posted := by
  simp [State.landPosted, hm]

end Sys2Proof.Machine
end

