-- ==== Sys2Proof/Laws/Sparse.lean ====
section
/-! SUPPORT. The canonical sparse stores: what a write does to every later read, and that every operation keeps the form. -/

namespace Sys2Proof.Machine

theorem sget_sins {α : Type} (d : α) (m : Sparse α) (k k' : Nat) (v : α) :
    sget d (sins m k v) k' = if k = k' then v else sget d m k' := by
  induction m with
  | nil => simp [sins, sget]
  | cons x r ih =>
    obtain ⟨a, u⟩ := x
    simp only [sins]
    split
    · simp [sget]
    · split
      · rename_i h1 h2
        subst h2
        simp only [sget]
        split <;> rfl
      · rename_i h1 h2
        simp only [sget, ih]
        split
        · rename_i h3
          subst h3
          rw [if_neg h2]
        · rfl

theorem sget_filter {α : Type} (d : α) (m : Sparse α) (p : Nat → Bool) (k : Nat) :
    sget d (m.filter (fun e => p e.1)) k = if p k then sget d m k else d := by
  induction m with
  | nil => simp [sget]
  | cons x r ih =>
    obtain ⟨a, u⟩ := x
    simp only [List.filter]
    by_cases h : a = k
    · subst h
      cases hp : p a <;> simp_all [sget]
    · cases hp : p a <;> simp_all [sget]

/-- A read after a write: the value written at its key, the old value elsewhere. -/
theorem sget_sput {α : Type} [DecidableEq α] (d : α) (m : Sparse α) (k k' : Nat) (v : α) :
    sget d (sput d m k v) k' = if k = k' then v else sget d m k' := by
  unfold sput
  split
  · rename_i h
    subst h
    unfold sdel
    rw [sget_filter _ m (fun a => a != k)]
    by_cases h : k = k'
    · subst h
      simp
    · have : k' ≠ k := fun e => h e.symm
      simp [h, this]
  · exact sget_sins ..

@[simp] theorem sget_sput_same {α : Type} [DecidableEq α] (d : α) (m : Sparse α) (k : Nat) (v : α) :
    sget d (sput d m k v) k = v := by simp [sget_sput]

theorem sget_sput_other {α : Type} [DecidableEq α] (d : α) (m : Sparse α) (k k' : Nat) (v : α) (h : k' ≠ k) :
    sget d (sput d m k v) k' = sget d m k' := by simp [sget_sput, Ne.symm h]

/-! ### The canonical form -/

theorem swf_nil {α : Type} [DecidableEq α] (d : α) : swf d ([] : Sparse α) = true := rfl

theorem swf_filter {α : Type} [DecidableEq α] (d : α) (m : Sparse α) (p : Nat × α → Bool) (h : swf d m = true) :
    swf d (m.filter p) = true := by
  induction m with
  | nil => rfl
  | cons x r ih =>
    obtain ⟨a, v⟩ := x
    simp only [swf, Bool.and_eq_true, List.all_eq_true] at h
    simp only [List.filter]
    split
    · simp only [swf, Bool.and_eq_true, List.all_eq_true]
      exact ⟨⟨h.1.1, fun e he => h.1.2 e (List.mem_filter.mp he).1⟩, ih h.2⟩
    · exact ih h.2

theorem swf_sdel {α : Type} [DecidableEq α] (d : α) (m : Sparse α) (k : Nat) (h : swf d m = true) :
    swf d (sdel m k) = true := swf_filter d m _ h

theorem mem_sins {α : Type} (m : Sparse α) (k : Nat) (v : α) (e : Nat × α) (h : e ∈ sins m k v) : e.1 = k ∨ e ∈ m := by
  induction m with
  | nil =>
    simp [sins] at h
    subst h
    exact .inl rfl
  | cons x r ih =>
    obtain ⟨a, u⟩ := x
    simp only [sins] at h
    split at h
    · rcases List.mem_cons.mp h with h | h
      · subst h
        exact .inl rfl
      · exact .inr h
    · split at h
      · rcases List.mem_cons.mp h with h | h
        · subst h
          exact .inl rfl
        · exact .inr (List.mem_cons_of_mem _ h)
      · rcases List.mem_cons.mp h with h | h
        · subst h
          exact .inr List.mem_cons_self
        · rcases ih h with h | h
          · exact .inl h
          · exact .inr (List.mem_cons_of_mem _ h)

theorem swf_sins {α : Type} [DecidableEq α] (d : α) (m : Sparse α) (k : Nat) (v : α) (hv : v ≠ d)
    (h : swf d m = true) : swf d (sins m k v) = true := by
  induction m with
  | nil => simp [sins, swf, hv]
  | cons x r ih =>
    obtain ⟨a, u⟩ := x
    have h0 := h
    simp only [swf, Bool.and_eq_true, List.all_eq_true, decide_eq_true_eq] at h
    simp only [sins]
    split
    · rename_i hk
      simp only [swf, Bool.and_eq_true, List.all_eq_true, decide_eq_true_eq]
      refine ⟨⟨by simpa using hv, ?_⟩, h⟩
      intro e he
      rcases List.mem_cons.mp he with he | he
      · subst he
        exact hk
      · exact Nat.lt_trans hk (h.1.2 e he)
    · split
      · rename_i hk
        subst hk
        simp only [swf, Bool.and_eq_true, List.all_eq_true, decide_eq_true_eq]
        exact ⟨⟨by simpa using hv, h.1.2⟩, h.2⟩
      · simp only [swf, Bool.and_eq_true, List.all_eq_true, decide_eq_true_eq]
        refine ⟨⟨h.1.1, ?_⟩, ih h.2⟩
        intro e he
        rcases mem_sins r k v e he with he | he
        · rw [he]
          omega
        · exact h.1.2 e he

/-- A write keeps the canonical form. -/
theorem swf_sput {α : Type} [DecidableEq α] (d : α) (m : Sparse α) (k : Nat) (v : α) (h : swf d m = true) :
    swf d (sput d m k v) = true := by
  unfold sput
  split
  · exact swf_sdel d m k h
  · exact swf_sins d m k v (by assumption) h

/-! ### Bit fields -/

theorem getLsbD_ofNat_two_pow (n k i : Nat) : (BitVec.ofNat n (2 ^ k)).getLsbD i = (decide (i < n) && decide (i = k)) := by
  rw [BitVec.getLsbD_ofNat, Nat.testBit_two_pow]
  simp [eq_comm]

end Sys2Proof.Machine
end

