-- ==== Sys2Proof/Laws/State.lean ====
section
/-! SUPPORT. What each block setter of State leaves in every field: one lemma per field and update, true by rfl. -/

namespace Sys2Proof.Machine

@[simp] theorem State.mapSeq_seq (s : State) (g : Seq → Seq) : (s.mapSeq g).seq = g s.seq := rfl
@[simp] theorem State.mapSeq_smem (s : State) (g : Seq → Seq) : (s.mapSeq g).smem = s.smem := rfl
@[simp] theorem State.mapSeq_arr (s : State) (g : Seq → Seq) : (s.mapSeq g).arr = s.arr := rfl
@[simp] theorem State.mapSeq_cv (s : State) (g : Seq → Seq) : (s.mapSeq g).cv = s.cv := rfl
@[simp] theorem State.mapSeq_red (s : State) (g : Seq → Seq) : (s.mapSeq g).red = s.red := rfl
@[simp] theorem State.mapSeq_tim (s : State) (g : Seq → Seq) : (s.mapSeq g).tim = s.tim := rfl
@[simp] theorem State.mapSeq_out (s : State) (g : Seq → Seq) : (s.mapSeq g).out = s.out := rfl
@[simp] theorem State.mapSeq_lanes (s : State) (g : Seq → Seq) : (s.mapSeq g).lanes = s.lanes := rfl
@[simp] theorem State.mapSeq_dn (s : State) (g : Seq → Seq) : (s.mapSeq g).dn = s.dn := rfl
@[simp] theorem State.mapSeq_tw (s : State) (g : Seq → Seq) : (s.mapSeq g).tw = s.tw := rfl
@[simp] theorem State.mapSeq_sof (s : State) (g : Seq → Seq) : (s.mapSeq g).sof = s.sof := rfl
@[simp] theorem State.mapSeq_frk (s : State) (g : Seq → Seq) : (s.mapSeq g).frk = s.frk := rfl
@[simp] theorem State.mapSeq_noc (s : State) (g : Seq → Seq) : (s.mapSeq g).noc = s.noc := rfl
@[simp] theorem State.mapSeq_mem (s : State) (g : Seq → Seq) : (s.mapSeq g).mem = s.mem := rfl
@[simp] theorem State.mapSeq_otp (s : State) (g : Seq → Seq) : (s.mapSeq g).otp = s.otp := rfl
@[simp] theorem State.mapSeq_sys (s : State) (g : Seq → Seq) : (s.mapSeq g).sys = s.sys := rfl
@[simp] theorem State.mapSeq_cycle (s : State) (g : Seq → Seq) : (s.mapSeq g).cycle = s.cycle := rfl
@[simp] theorem State.mapSeq_regs (s : State) (g : Seq → Seq) : (s.mapSeq g).regs = s.regs := rfl
@[simp] theorem State.mapSeq_free (s : State) (g : Seq → Seq) : (s.mapSeq g).free = s.free := rfl
@[simp] theorem State.mapSeq_answer (s : State) (g : Seq → Seq) : (s.mapSeq g).answer = s.answer := rfl
@[simp] theorem State.mapSeq_pending (s : State) (g : Seq → Seq) : (s.mapSeq g).pending = s.pending := rfl

@[simp] theorem State.mapArr_seq (s : State) (g : ArrayUnit → ArrayUnit) : (s.mapArr g).seq = s.seq := rfl
@[simp] theorem State.mapArr_smem (s : State) (g : ArrayUnit → ArrayUnit) : (s.mapArr g).smem = s.smem := rfl
@[simp] theorem State.mapArr_arr (s : State) (g : ArrayUnit → ArrayUnit) : (s.mapArr g).arr = g s.arr := rfl
@[simp] theorem State.mapArr_cv (s : State) (g : ArrayUnit → ArrayUnit) : (s.mapArr g).cv = s.cv := rfl
@[simp] theorem State.mapArr_red (s : State) (g : ArrayUnit → ArrayUnit) : (s.mapArr g).red = s.red := rfl
@[simp] theorem State.mapArr_tim (s : State) (g : ArrayUnit → ArrayUnit) : (s.mapArr g).tim = s.tim := rfl
@[simp] theorem State.mapArr_out (s : State) (g : ArrayUnit → ArrayUnit) : (s.mapArr g).out = s.out := rfl
@[simp] theorem State.mapArr_lanes (s : State) (g : ArrayUnit → ArrayUnit) : (s.mapArr g).lanes = s.lanes := rfl
@[simp] theorem State.mapArr_dn (s : State) (g : ArrayUnit → ArrayUnit) : (s.mapArr g).dn = s.dn := rfl
@[simp] theorem State.mapArr_tw (s : State) (g : ArrayUnit → ArrayUnit) : (s.mapArr g).tw = s.tw := rfl
@[simp] theorem State.mapArr_sof (s : State) (g : ArrayUnit → ArrayUnit) : (s.mapArr g).sof = s.sof := rfl
@[simp] theorem State.mapArr_frk (s : State) (g : ArrayUnit → ArrayUnit) : (s.mapArr g).frk = s.frk := rfl
@[simp] theorem State.mapArr_noc (s : State) (g : ArrayUnit → ArrayUnit) : (s.mapArr g).noc = s.noc := rfl
@[simp] theorem State.mapArr_mem (s : State) (g : ArrayUnit → ArrayUnit) : (s.mapArr g).mem = s.mem := rfl
@[simp] theorem State.mapArr_otp (s : State) (g : ArrayUnit → ArrayUnit) : (s.mapArr g).otp = s.otp := rfl
@[simp] theorem State.mapArr_sys (s : State) (g : ArrayUnit → ArrayUnit) : (s.mapArr g).sys = s.sys := rfl
@[simp] theorem State.mapArr_cycle (s : State) (g : ArrayUnit → ArrayUnit) : (s.mapArr g).cycle = s.cycle := rfl
@[simp] theorem State.mapArr_regs (s : State) (g : ArrayUnit → ArrayUnit) : (s.mapArr g).regs = s.regs := rfl
@[simp] theorem State.mapArr_free (s : State) (g : ArrayUnit → ArrayUnit) : (s.mapArr g).free = s.free := rfl
@[simp] theorem State.mapArr_answer (s : State) (g : ArrayUnit → ArrayUnit) : (s.mapArr g).answer = s.answer := rfl
@[simp] theorem State.mapArr_pending (s : State) (g : ArrayUnit → ArrayUnit) : (s.mapArr g).pending = s.pending := rfl

@[simp] theorem State.mapCv_seq (s : State) (g : Canvas → Canvas) : (s.mapCv g).seq = s.seq := rfl
@[simp] theorem State.mapCv_smem (s : State) (g : Canvas → Canvas) : (s.mapCv g).smem = s.smem := rfl
@[simp] theorem State.mapCv_arr (s : State) (g : Canvas → Canvas) : (s.mapCv g).arr = s.arr := rfl
@[simp] theorem State.mapCv_cv (s : State) (g : Canvas → Canvas) : (s.mapCv g).cv = g s.cv := rfl
@[simp] theorem State.mapCv_red (s : State) (g : Canvas → Canvas) : (s.mapCv g).red = s.red := rfl
@[simp] theorem State.mapCv_tim (s : State) (g : Canvas → Canvas) : (s.mapCv g).tim = s.tim := rfl
@[simp] theorem State.mapCv_out (s : State) (g : Canvas → Canvas) : (s.mapCv g).out = s.out := rfl
@[simp] theorem State.mapCv_lanes (s : State) (g : Canvas → Canvas) : (s.mapCv g).lanes = s.lanes := rfl
@[simp] theorem State.mapCv_dn (s : State) (g : Canvas → Canvas) : (s.mapCv g).dn = s.dn := rfl
@[simp] theorem State.mapCv_tw (s : State) (g : Canvas → Canvas) : (s.mapCv g).tw = s.tw := rfl
@[simp] theorem State.mapCv_sof (s : State) (g : Canvas → Canvas) : (s.mapCv g).sof = s.sof := rfl
@[simp] theorem State.mapCv_frk (s : State) (g : Canvas → Canvas) : (s.mapCv g).frk = s.frk := rfl
@[simp] theorem State.mapCv_noc (s : State) (g : Canvas → Canvas) : (s.mapCv g).noc = s.noc := rfl
@[simp] theorem State.mapCv_mem (s : State) (g : Canvas → Canvas) : (s.mapCv g).mem = s.mem := rfl
@[simp] theorem State.mapCv_otp (s : State) (g : Canvas → Canvas) : (s.mapCv g).otp = s.otp := rfl
@[simp] theorem State.mapCv_sys (s : State) (g : Canvas → Canvas) : (s.mapCv g).sys = s.sys := rfl
@[simp] theorem State.mapCv_cycle (s : State) (g : Canvas → Canvas) : (s.mapCv g).cycle = s.cycle := rfl
@[simp] theorem State.mapCv_regs (s : State) (g : Canvas → Canvas) : (s.mapCv g).regs = s.regs := rfl
@[simp] theorem State.mapCv_free (s : State) (g : Canvas → Canvas) : (s.mapCv g).free = s.free := rfl
@[simp] theorem State.mapCv_answer (s : State) (g : Canvas → Canvas) : (s.mapCv g).answer = s.answer := rfl
@[simp] theorem State.mapCv_pending (s : State) (g : Canvas → Canvas) : (s.mapCv g).pending = s.pending := rfl

@[simp] theorem State.mapRed_seq (s : State) (g : Reductions → Reductions) : (s.mapRed g).seq = s.seq := rfl
@[simp] theorem State.mapRed_smem (s : State) (g : Reductions → Reductions) : (s.mapRed g).smem = s.smem := rfl
@[simp] theorem State.mapRed_arr (s : State) (g : Reductions → Reductions) : (s.mapRed g).arr = s.arr := rfl
@[simp] theorem State.mapRed_cv (s : State) (g : Reductions → Reductions) : (s.mapRed g).cv = s.cv := rfl
@[simp] theorem State.mapRed_red (s : State) (g : Reductions → Reductions) : (s.mapRed g).red = g s.red := rfl
@[simp] theorem State.mapRed_tim (s : State) (g : Reductions → Reductions) : (s.mapRed g).tim = s.tim := rfl
@[simp] theorem State.mapRed_out (s : State) (g : Reductions → Reductions) : (s.mapRed g).out = s.out := rfl
@[simp] theorem State.mapRed_lanes (s : State) (g : Reductions → Reductions) : (s.mapRed g).lanes = s.lanes := rfl
@[simp] theorem State.mapRed_dn (s : State) (g : Reductions → Reductions) : (s.mapRed g).dn = s.dn := rfl
@[simp] theorem State.mapRed_tw (s : State) (g : Reductions → Reductions) : (s.mapRed g).tw = s.tw := rfl
@[simp] theorem State.mapRed_sof (s : State) (g : Reductions → Reductions) : (s.mapRed g).sof = s.sof := rfl
@[simp] theorem State.mapRed_frk (s : State) (g : Reductions → Reductions) : (s.mapRed g).frk = s.frk := rfl
@[simp] theorem State.mapRed_noc (s : State) (g : Reductions → Reductions) : (s.mapRed g).noc = s.noc := rfl
@[simp] theorem State.mapRed_mem (s : State) (g : Reductions → Reductions) : (s.mapRed g).mem = s.mem := rfl
@[simp] theorem State.mapRed_otp (s : State) (g : Reductions → Reductions) : (s.mapRed g).otp = s.otp := rfl
@[simp] theorem State.mapRed_sys (s : State) (g : Reductions → Reductions) : (s.mapRed g).sys = s.sys := rfl
@[simp] theorem State.mapRed_cycle (s : State) (g : Reductions → Reductions) : (s.mapRed g).cycle = s.cycle := rfl
@[simp] theorem State.mapRed_regs (s : State) (g : Reductions → Reductions) : (s.mapRed g).regs = s.regs := rfl
@[simp] theorem State.mapRed_free (s : State) (g : Reductions → Reductions) : (s.mapRed g).free = s.free := rfl
@[simp] theorem State.mapRed_answer (s : State) (g : Reductions → Reductions) : (s.mapRed g).answer = s.answer := rfl
@[simp] theorem State.mapRed_pending (s : State) (g : Reductions → Reductions) : (s.mapRed g).pending = s.pending := rfl

@[simp] theorem State.mapOut_seq (s : State) (g : Formatter → Formatter) : (s.mapOut g).seq = s.seq := rfl
@[simp] theorem State.mapOut_smem (s : State) (g : Formatter → Formatter) : (s.mapOut g).smem = s.smem := rfl
@[simp] theorem State.mapOut_arr (s : State) (g : Formatter → Formatter) : (s.mapOut g).arr = s.arr := rfl
@[simp] theorem State.mapOut_cv (s : State) (g : Formatter → Formatter) : (s.mapOut g).cv = s.cv := rfl
@[simp] theorem State.mapOut_red (s : State) (g : Formatter → Formatter) : (s.mapOut g).red = s.red := rfl
@[simp] theorem State.mapOut_tim (s : State) (g : Formatter → Formatter) : (s.mapOut g).tim = s.tim := rfl
@[simp] theorem State.mapOut_out (s : State) (g : Formatter → Formatter) : (s.mapOut g).out = g s.out := rfl
@[simp] theorem State.mapOut_lanes (s : State) (g : Formatter → Formatter) : (s.mapOut g).lanes = s.lanes := rfl
@[simp] theorem State.mapOut_dn (s : State) (g : Formatter → Formatter) : (s.mapOut g).dn = s.dn := rfl
@[simp] theorem State.mapOut_tw (s : State) (g : Formatter → Formatter) : (s.mapOut g).tw = s.tw := rfl
@[simp] theorem State.mapOut_sof (s : State) (g : Formatter → Formatter) : (s.mapOut g).sof = s.sof := rfl
@[simp] theorem State.mapOut_frk (s : State) (g : Formatter → Formatter) : (s.mapOut g).frk = s.frk := rfl
@[simp] theorem State.mapOut_noc (s : State) (g : Formatter → Formatter) : (s.mapOut g).noc = s.noc := rfl
@[simp] theorem State.mapOut_mem (s : State) (g : Formatter → Formatter) : (s.mapOut g).mem = s.mem := rfl
@[simp] theorem State.mapOut_otp (s : State) (g : Formatter → Formatter) : (s.mapOut g).otp = s.otp := rfl
@[simp] theorem State.mapOut_sys (s : State) (g : Formatter → Formatter) : (s.mapOut g).sys = s.sys := rfl
@[simp] theorem State.mapOut_cycle (s : State) (g : Formatter → Formatter) : (s.mapOut g).cycle = s.cycle := rfl
@[simp] theorem State.mapOut_regs (s : State) (g : Formatter → Formatter) : (s.mapOut g).regs = s.regs := rfl
@[simp] theorem State.mapOut_free (s : State) (g : Formatter → Formatter) : (s.mapOut g).free = s.free := rfl
@[simp] theorem State.mapOut_answer (s : State) (g : Formatter → Formatter) : (s.mapOut g).answer = s.answer := rfl
@[simp] theorem State.mapOut_pending (s : State) (g : Formatter → Formatter) : (s.mapOut g).pending = s.pending := rfl

@[simp] theorem State.mapFrk_seq (s : State) (g : Franking → Franking) : (s.mapFrk g).seq = s.seq := rfl
@[simp] theorem State.mapFrk_smem (s : State) (g : Franking → Franking) : (s.mapFrk g).smem = s.smem := rfl
@[simp] theorem State.mapFrk_arr (s : State) (g : Franking → Franking) : (s.mapFrk g).arr = s.arr := rfl
@[simp] theorem State.mapFrk_cv (s : State) (g : Franking → Franking) : (s.mapFrk g).cv = s.cv := rfl
@[simp] theorem State.mapFrk_red (s : State) (g : Franking → Franking) : (s.mapFrk g).red = s.red := rfl
@[simp] theorem State.mapFrk_tim (s : State) (g : Franking → Franking) : (s.mapFrk g).tim = s.tim := rfl
@[simp] theorem State.mapFrk_out (s : State) (g : Franking → Franking) : (s.mapFrk g).out = s.out := rfl
@[simp] theorem State.mapFrk_lanes (s : State) (g : Franking → Franking) : (s.mapFrk g).lanes = s.lanes := rfl
@[simp] theorem State.mapFrk_dn (s : State) (g : Franking → Franking) : (s.mapFrk g).dn = s.dn := rfl
@[simp] theorem State.mapFrk_tw (s : State) (g : Franking → Franking) : (s.mapFrk g).tw = s.tw := rfl
@[simp] theorem State.mapFrk_sof (s : State) (g : Franking → Franking) : (s.mapFrk g).sof = s.sof := rfl
@[simp] theorem State.mapFrk_frk (s : State) (g : Franking → Franking) : (s.mapFrk g).frk = g s.frk := rfl
@[simp] theorem State.mapFrk_noc (s : State) (g : Franking → Franking) : (s.mapFrk g).noc = s.noc := rfl
@[simp] theorem State.mapFrk_mem (s : State) (g : Franking → Franking) : (s.mapFrk g).mem = s.mem := rfl
@[simp] theorem State.mapFrk_otp (s : State) (g : Franking → Franking) : (s.mapFrk g).otp = s.otp := rfl
@[simp] theorem State.mapFrk_sys (s : State) (g : Franking → Franking) : (s.mapFrk g).sys = s.sys := rfl
@[simp] theorem State.mapFrk_cycle (s : State) (g : Franking → Franking) : (s.mapFrk g).cycle = s.cycle := rfl
@[simp] theorem State.mapFrk_regs (s : State) (g : Franking → Franking) : (s.mapFrk g).regs = s.regs := rfl
@[simp] theorem State.mapFrk_free (s : State) (g : Franking → Franking) : (s.mapFrk g).free = s.free := rfl
@[simp] theorem State.mapFrk_answer (s : State) (g : Franking → Franking) : (s.mapFrk g).answer = s.answer := rfl
@[simp] theorem State.mapFrk_pending (s : State) (g : Franking → Franking) : (s.mapFrk g).pending = s.pending := rfl

@[simp] theorem State.mapMem_seq (s : State) (g : Memories → Memories) : (s.mapMem g).seq = s.seq := rfl
@[simp] theorem State.mapMem_smem (s : State) (g : Memories → Memories) : (s.mapMem g).smem = s.smem := rfl
@[simp] theorem State.mapMem_arr (s : State) (g : Memories → Memories) : (s.mapMem g).arr = s.arr := rfl
@[simp] theorem State.mapMem_cv (s : State) (g : Memories → Memories) : (s.mapMem g).cv = s.cv := rfl
@[simp] theorem State.mapMem_red (s : State) (g : Memories → Memories) : (s.mapMem g).red = s.red := rfl
@[simp] theorem State.mapMem_tim (s : State) (g : Memories → Memories) : (s.mapMem g).tim = s.tim := rfl
@[simp] theorem State.mapMem_out (s : State) (g : Memories → Memories) : (s.mapMem g).out = s.out := rfl
@[simp] theorem State.mapMem_lanes (s : State) (g : Memories → Memories) : (s.mapMem g).lanes = s.lanes := rfl
@[simp] theorem State.mapMem_dn (s : State) (g : Memories → Memories) : (s.mapMem g).dn = s.dn := rfl
@[simp] theorem State.mapMem_tw (s : State) (g : Memories → Memories) : (s.mapMem g).tw = s.tw := rfl
@[simp] theorem State.mapMem_sof (s : State) (g : Memories → Memories) : (s.mapMem g).sof = s.sof := rfl
@[simp] theorem State.mapMem_frk (s : State) (g : Memories → Memories) : (s.mapMem g).frk = s.frk := rfl
@[simp] theorem State.mapMem_noc (s : State) (g : Memories → Memories) : (s.mapMem g).noc = s.noc := rfl
@[simp] theorem State.mapMem_mem (s : State) (g : Memories → Memories) : (s.mapMem g).mem = g s.mem := rfl
@[simp] theorem State.mapMem_otp (s : State) (g : Memories → Memories) : (s.mapMem g).otp = s.otp := rfl
@[simp] theorem State.mapMem_sys (s : State) (g : Memories → Memories) : (s.mapMem g).sys = s.sys := rfl
@[simp] theorem State.mapMem_cycle (s : State) (g : Memories → Memories) : (s.mapMem g).cycle = s.cycle := rfl
@[simp] theorem State.mapMem_regs (s : State) (g : Memories → Memories) : (s.mapMem g).regs = s.regs := rfl
@[simp] theorem State.mapMem_free (s : State) (g : Memories → Memories) : (s.mapMem g).free = s.free := rfl
@[simp] theorem State.mapMem_answer (s : State) (g : Memories → Memories) : (s.mapMem g).answer = s.answer := rfl
@[simp] theorem State.mapMem_pending (s : State) (g : Memories → Memories) : (s.mapMem g).pending = s.pending := rfl

@[simp] theorem State.mapNoc_seq (s : State) (g : Noc → Noc) : (s.mapNoc g).seq = s.seq := rfl
@[simp] theorem State.mapNoc_smem (s : State) (g : Noc → Noc) : (s.mapNoc g).smem = s.smem := rfl
@[simp] theorem State.mapNoc_arr (s : State) (g : Noc → Noc) : (s.mapNoc g).arr = s.arr := rfl
@[simp] theorem State.mapNoc_cv (s : State) (g : Noc → Noc) : (s.mapNoc g).cv = s.cv := rfl
@[simp] theorem State.mapNoc_red (s : State) (g : Noc → Noc) : (s.mapNoc g).red = s.red := rfl
@[simp] theorem State.mapNoc_tim (s : State) (g : Noc → Noc) : (s.mapNoc g).tim = s.tim := rfl
@[simp] theorem State.mapNoc_out (s : State) (g : Noc → Noc) : (s.mapNoc g).out = s.out := rfl
@[simp] theorem State.mapNoc_lanes (s : State) (g : Noc → Noc) : (s.mapNoc g).lanes = s.lanes := rfl
@[simp] theorem State.mapNoc_dn (s : State) (g : Noc → Noc) : (s.mapNoc g).dn = s.dn := rfl
@[simp] theorem State.mapNoc_tw (s : State) (g : Noc → Noc) : (s.mapNoc g).tw = s.tw := rfl
@[simp] theorem State.mapNoc_sof (s : State) (g : Noc → Noc) : (s.mapNoc g).sof = s.sof := rfl
@[simp] theorem State.mapNoc_frk (s : State) (g : Noc → Noc) : (s.mapNoc g).frk = s.frk := rfl
@[simp] theorem State.mapNoc_noc (s : State) (g : Noc → Noc) : (s.mapNoc g).noc = g s.noc := rfl
@[simp] theorem State.mapNoc_mem (s : State) (g : Noc → Noc) : (s.mapNoc g).mem = s.mem := rfl
@[simp] theorem State.mapNoc_otp (s : State) (g : Noc → Noc) : (s.mapNoc g).otp = s.otp := rfl
@[simp] theorem State.mapNoc_sys (s : State) (g : Noc → Noc) : (s.mapNoc g).sys = s.sys := rfl
@[simp] theorem State.mapNoc_cycle (s : State) (g : Noc → Noc) : (s.mapNoc g).cycle = s.cycle := rfl
@[simp] theorem State.mapNoc_regs (s : State) (g : Noc → Noc) : (s.mapNoc g).regs = s.regs := rfl
@[simp] theorem State.mapNoc_free (s : State) (g : Noc → Noc) : (s.mapNoc g).free = s.free := rfl
@[simp] theorem State.mapNoc_answer (s : State) (g : Noc → Noc) : (s.mapNoc g).answer = s.answer := rfl
@[simp] theorem State.mapNoc_pending (s : State) (g : Noc → Noc) : (s.mapNoc g).pending = s.pending := rfl

@[simp] theorem State.mapTw_seq (s : State) (g : Tweed → Tweed) : (s.mapTw g).seq = s.seq := rfl
@[simp] theorem State.mapTw_smem (s : State) (g : Tweed → Tweed) : (s.mapTw g).smem = s.smem := rfl
@[simp] theorem State.mapTw_arr (s : State) (g : Tweed → Tweed) : (s.mapTw g).arr = s.arr := rfl
@[simp] theorem State.mapTw_cv (s : State) (g : Tweed → Tweed) : (s.mapTw g).cv = s.cv := rfl
@[simp] theorem State.mapTw_red (s : State) (g : Tweed → Tweed) : (s.mapTw g).red = s.red := rfl
@[simp] theorem State.mapTw_tim (s : State) (g : Tweed → Tweed) : (s.mapTw g).tim = s.tim := rfl
@[simp] theorem State.mapTw_out (s : State) (g : Tweed → Tweed) : (s.mapTw g).out = s.out := rfl
@[simp] theorem State.mapTw_lanes (s : State) (g : Tweed → Tweed) : (s.mapTw g).lanes = s.lanes := rfl
@[simp] theorem State.mapTw_dn (s : State) (g : Tweed → Tweed) : (s.mapTw g).dn = s.dn := rfl
@[simp] theorem State.mapTw_tw (s : State) (g : Tweed → Tweed) : (s.mapTw g).tw = g s.tw := rfl
@[simp] theorem State.mapTw_sof (s : State) (g : Tweed → Tweed) : (s.mapTw g).sof = s.sof := rfl
@[simp] theorem State.mapTw_frk (s : State) (g : Tweed → Tweed) : (s.mapTw g).frk = s.frk := rfl
@[simp] theorem State.mapTw_noc (s : State) (g : Tweed → Tweed) : (s.mapTw g).noc = s.noc := rfl
@[simp] theorem State.mapTw_mem (s : State) (g : Tweed → Tweed) : (s.mapTw g).mem = s.mem := rfl
@[simp] theorem State.mapTw_otp (s : State) (g : Tweed → Tweed) : (s.mapTw g).otp = s.otp := rfl
@[simp] theorem State.mapTw_sys (s : State) (g : Tweed → Tweed) : (s.mapTw g).sys = s.sys := rfl
@[simp] theorem State.mapTw_cycle (s : State) (g : Tweed → Tweed) : (s.mapTw g).cycle = s.cycle := rfl
@[simp] theorem State.mapTw_regs (s : State) (g : Tweed → Tweed) : (s.mapTw g).regs = s.regs := rfl
@[simp] theorem State.mapTw_free (s : State) (g : Tweed → Tweed) : (s.mapTw g).free = s.free := rfl
@[simp] theorem State.mapTw_answer (s : State) (g : Tweed → Tweed) : (s.mapTw g).answer = s.answer := rfl
@[simp] theorem State.mapTw_pending (s : State) (g : Tweed → Tweed) : (s.mapTw g).pending = s.pending := rfl

@[simp] theorem State.mapSys_seq (s : State) (g : System → System) : (s.mapSys g).seq = s.seq := rfl
@[simp] theorem State.mapSys_smem (s : State) (g : System → System) : (s.mapSys g).smem = s.smem := rfl
@[simp] theorem State.mapSys_arr (s : State) (g : System → System) : (s.mapSys g).arr = s.arr := rfl
@[simp] theorem State.mapSys_cv (s : State) (g : System → System) : (s.mapSys g).cv = s.cv := rfl
@[simp] theorem State.mapSys_red (s : State) (g : System → System) : (s.mapSys g).red = s.red := rfl
@[simp] theorem State.mapSys_tim (s : State) (g : System → System) : (s.mapSys g).tim = s.tim := rfl
@[simp] theorem State.mapSys_out (s : State) (g : System → System) : (s.mapSys g).out = s.out := rfl
@[simp] theorem State.mapSys_lanes (s : State) (g : System → System) : (s.mapSys g).lanes = s.lanes := rfl
@[simp] theorem State.mapSys_dn (s : State) (g : System → System) : (s.mapSys g).dn = s.dn := rfl
@[simp] theorem State.mapSys_tw (s : State) (g : System → System) : (s.mapSys g).tw = s.tw := rfl
@[simp] theorem State.mapSys_sof (s : State) (g : System → System) : (s.mapSys g).sof = s.sof := rfl
@[simp] theorem State.mapSys_frk (s : State) (g : System → System) : (s.mapSys g).frk = s.frk := rfl
@[simp] theorem State.mapSys_noc (s : State) (g : System → System) : (s.mapSys g).noc = s.noc := rfl
@[simp] theorem State.mapSys_mem (s : State) (g : System → System) : (s.mapSys g).mem = s.mem := rfl
@[simp] theorem State.mapSys_otp (s : State) (g : System → System) : (s.mapSys g).otp = s.otp := rfl
@[simp] theorem State.mapSys_sys (s : State) (g : System → System) : (s.mapSys g).sys = g s.sys := rfl
@[simp] theorem State.mapSys_cycle (s : State) (g : System → System) : (s.mapSys g).cycle = s.cycle := rfl
@[simp] theorem State.mapSys_regs (s : State) (g : System → System) : (s.mapSys g).regs = s.regs := rfl
@[simp] theorem State.mapSys_free (s : State) (g : System → System) : (s.mapSys g).free = s.free := rfl
@[simp] theorem State.mapSys_answer (s : State) (g : System → System) : (s.mapSys g).answer = s.answer := rfl
@[simp] theorem State.mapSys_pending (s : State) (g : System → System) : (s.mapSys g).pending = s.pending := rfl

@[simp] theorem State.say_seq (s : State) (a : Status) : (s.say a).seq = s.seq := rfl
@[simp] theorem State.say_smem (s : State) (a : Status) : (s.say a).smem = s.smem := rfl
@[simp] theorem State.say_arr (s : State) (a : Status) : (s.say a).arr = s.arr := rfl
@[simp] theorem State.say_cv (s : State) (a : Status) : (s.say a).cv = s.cv := rfl
@[simp] theorem State.say_red (s : State) (a : Status) : (s.say a).red = s.red := rfl
@[simp] theorem State.say_tim (s : State) (a : Status) : (s.say a).tim = s.tim := rfl
@[simp] theorem State.say_out (s : State) (a : Status) : (s.say a).out = s.out := rfl
@[simp] theorem State.say_lanes (s : State) (a : Status) : (s.say a).lanes = s.lanes := rfl
@[simp] theorem State.say_dn (s : State) (a : Status) : (s.say a).dn = s.dn := rfl
@[simp] theorem State.say_tw (s : State) (a : Status) : (s.say a).tw = s.tw := rfl
@[simp] theorem State.say_sof (s : State) (a : Status) : (s.say a).sof = s.sof := rfl
@[simp] theorem State.say_frk (s : State) (a : Status) : (s.say a).frk = s.frk := rfl
@[simp] theorem State.say_noc (s : State) (a : Status) : (s.say a).noc = s.noc := rfl
@[simp] theorem State.say_mem (s : State) (a : Status) : (s.say a).mem = s.mem := rfl
@[simp] theorem State.say_otp (s : State) (a : Status) : (s.say a).otp = s.otp := rfl
@[simp] theorem State.say_sys (s : State) (a : Status) : (s.say a).sys = s.sys := rfl
@[simp] theorem State.say_cycle (s : State) (a : Status) : (s.say a).cycle = s.cycle := rfl
@[simp] theorem State.say_regs (s : State) (a : Status) : (s.say a).regs = s.regs := rfl
@[simp] theorem State.say_free (s : State) (a : Status) : (s.say a).free = s.free := rfl
@[simp] theorem State.say_answer (s : State) (a : Status) : (s.say a).answer = a := rfl
@[simp] theorem State.say_pending (s : State) (a : Status) : (s.say a).pending = s.pending := rfl

@[simp] theorem State.drawn_seq (s : State) : s.drawn.seq = s.seq := rfl
@[simp] theorem State.drawn_smem (s : State) : s.drawn.smem = s.smem := rfl
@[simp] theorem State.drawn_arr (s : State) : s.drawn.arr = s.arr := rfl
@[simp] theorem State.drawn_cv (s : State) : s.drawn.cv = s.cv := rfl
@[simp] theorem State.drawn_red (s : State) : s.drawn.red = s.red := rfl
@[simp] theorem State.drawn_tim (s : State) : s.drawn.tim = s.tim := rfl
@[simp] theorem State.drawn_out (s : State) : s.drawn.out = s.out := rfl
@[simp] theorem State.drawn_lanes (s : State) : s.drawn.lanes = s.lanes := rfl
@[simp] theorem State.drawn_dn (s : State) : s.drawn.dn = s.dn := rfl
@[simp] theorem State.drawn_tw (s : State) : s.drawn.tw = s.tw := rfl
@[simp] theorem State.drawn_sof (s : State) : s.drawn.sof = s.sof := rfl
@[simp] theorem State.drawn_frk (s : State) : s.drawn.frk = s.frk := rfl
@[simp] theorem State.drawn_noc (s : State) : s.drawn.noc = s.noc := rfl
@[simp] theorem State.drawn_mem (s : State) : s.drawn.mem = s.mem := rfl
@[simp] theorem State.drawn_otp (s : State) : s.drawn.otp = s.otp := rfl
@[simp] theorem State.drawn_sys (s : State) : s.drawn.sys = s.sys := rfl
@[simp] theorem State.drawn_cycle (s : State) : s.drawn.cycle = s.cycle := rfl
@[simp] theorem State.drawn_regs (s : State) : s.drawn.regs = s.regs := rfl
@[simp] theorem State.drawn_free (s : State) : s.drawn.free = s.free + 1 := rfl
@[simp] theorem State.drawn_answer (s : State) : s.drawn.answer = s.answer := rfl
@[simp] theorem State.drawn_pending (s : State) : s.drawn.pending = s.pending := rfl

@[simp] theorem State.mapPort_seq (s : State) (p : Port) (g : HostPort → HostPort) : (s.mapPort p g).seq = s.seq := rfl
@[simp] theorem State.mapPort_smem (s : State) (p : Port) (g : HostPort → HostPort) : (s.mapPort p g).smem = s.smem := rfl
@[simp] theorem State.mapPort_arr (s : State) (p : Port) (g : HostPort → HostPort) : (s.mapPort p g).arr = s.arr := rfl
@[simp] theorem State.mapPort_cv (s : State) (p : Port) (g : HostPort → HostPort) : (s.mapPort p g).cv = s.cv := rfl
@[simp] theorem State.mapPort_red (s : State) (p : Port) (g : HostPort → HostPort) : (s.mapPort p g).red = s.red := rfl
@[simp] theorem State.mapPort_tim (s : State) (p : Port) (g : HostPort → HostPort) : (s.mapPort p g).tim = s.tim := rfl
@[simp] theorem State.mapPort_out (s : State) (p : Port) (g : HostPort → HostPort) : (s.mapPort p g).out = s.out := rfl
@[simp] theorem State.mapPort_lanes (s : State) (p : Port) (g : HostPort → HostPort) : (s.mapPort p g).lanes = s.lanes := rfl
@[simp] theorem State.mapPort_dn (s : State) (p : Port) (g : HostPort → HostPort) : (s.mapPort p g).dn = s.dn := rfl
@[simp] theorem State.mapPort_tw (s : State) (p : Port) (g : HostPort → HostPort) : (s.mapPort p g).tw = s.tw := rfl
@[simp] theorem State.mapPort_sof (s : State) (p : Port) (g : HostPort → HostPort) : (s.mapPort p g).sof = s.sof := rfl
@[simp] theorem State.mapPort_frk (s : State) (p : Port) (g : HostPort → HostPort) : (s.mapPort p g).frk = s.frk := rfl
@[simp] theorem State.mapPort_noc (s : State) (p : Port) (g : HostPort → HostPort) : (s.mapPort p g).noc = s.noc := rfl
@[simp] theorem State.mapPort_mem (s : State) (p : Port) (g : HostPort → HostPort) : (s.mapPort p g).mem = s.mem := rfl
@[simp] theorem State.mapPort_otp (s : State) (p : Port) (g : HostPort → HostPort) : (s.mapPort p g).otp = s.otp := rfl
@[simp] theorem State.mapPort_sys (s : State) (p : Port) (g : HostPort → HostPort) : (s.mapPort p g).sys = s.sys.setPort p (g (s.sys.port p)) := rfl
@[simp] theorem State.mapPort_cycle (s : State) (p : Port) (g : HostPort → HostPort) : (s.mapPort p g).cycle = s.cycle := rfl
@[simp] theorem State.mapPort_regs (s : State) (p : Port) (g : HostPort → HostPort) : (s.mapPort p g).regs = s.regs := rfl
@[simp] theorem State.mapPort_free (s : State) (p : Port) (g : HostPort → HostPort) : (s.mapPort p g).free = s.free := rfl
@[simp] theorem State.mapPort_answer (s : State) (p : Port) (g : HostPort → HostPort) : (s.mapPort p g).answer = s.answer := rfl
@[simp] theorem State.mapPort_pending (s : State) (p : Port) (g : HostPort → HostPort) : (s.mapPort p g).pending = s.pending := rfl

@[simp] theorem System.port_setPort (y : System) (p : Port) (h : HostPort) : (y.setPort p h).port p = h := by cases p <;> rfl

@[simp] theorem System.port_setPort_other (y : System) (p : Port) (h : HostPort) :
    (y.setPort p h).port (portOther p) = y.port (portOther p) := by cases p <;> rfl

end Sys2Proof.Machine
end

