-- ==== Sys2Proof/Laws/Memory.lean ====
section
/-! SUPPORT. The addressed memories: every operation on one keeps its canonical form, and what a read gives after a write. -/

namespace Sys2Proof.Machine

/-! ### Canonical form -/

theorem Memories.wf_iff (m : Memories) : m.wf = true ↔ swf 0 m.dram = true ∧ swf 0 m.ph = true := by simp [Memories.wf]
theorem SeqMem.wf_iff (m : SeqMem) : m.wf = true ↔ swf 0 m.imem = true ∧ swf 0 m.dmem = true := by simp [SeqMem.wf]
theorem State.memoriesCanonical_iff (s : State) : s.memoriesCanonical = true ↔ s.mem.wf = true ∧ s.smem.wf = true := by
  simp [State.memoriesCanonical]

/-- A state with the same memories is canonical with the other. -/
theorem State.memoriesCanonical_congr {s t : State} (h : s.memoriesCanonical = true) (a : t.mem = s.mem) (b : t.smem = s.smem) :
    t.memoriesCanonical = true := by
  rw [State.memoriesCanonical_iff] at *
  rw [a, b]
  exact h

theorem swf_dputs (m : Sparse Byte) (a : Nat) (b : List Byte) (h : swf 0 m = true) : swf 0 (dputs m a b) = true := by
  induction b generalizing m a with
  | nil => exact h
  | cons x r ih => exact ih _ _ (swf_sput 0 m a x h)

theorem State.dwrite_wf (s : State) (a : Nat) (b : List Byte) (h : s.mem.wf = true) : (s.dwrite a b).mem.wf = true := by
  rw [Memories.wf_iff] at *
  exact ⟨swf_dputs _ _ _ h.1, h.2⟩

theorem State.setCont_wf (s : State) (b c : Nat) (v : Cont) (h : s.mem.wf = true) : (s.setCont b c v).mem.wf = true := by
  rw [Memories.wf_iff] at *
  exact ⟨h.1, swf_sput _ _ _ _ h.2⟩

theorem State.setConts_wf (s : State) (b c : Nat) (ws : List Word) (h : s.mem.wf = true) : (s.setConts b c ws).mem.wf = true := by
  induction ws generalizing s c with
  | nil => exact h
  | cons w r ih => exact ih _ _ (s.setCont_wf b c _ h)

theorem State.putRaw_wf (s : State) (b c : Nat) (ws : List Cont) (h : s.mem.wf = true) : (s.putRaw b c ws).mem.wf = true := by
  induction ws generalizing s c with
  | nil => exact h
  | cons w r ih => exact ih _ _ (s.setCont_wf b c _ h)

theorem State.zeroDram_wf (s : State) (a n : Nat) (h : s.mem.wf = true) : (s.zeroDram a n).mem.wf = true := by
  rw [Memories.wf_iff] at *
  exact ⟨swf_filter _ _ _ h.1, h.2⟩

theorem State.zeroBanks_wf (s : State) (p : Nat → Bool) (h : s.mem.wf = true) : (s.zeroBanks p).mem.wf = true := by
  rw [Memories.wf_iff] at *
  exact ⟨h.1, swf_filter _ _ _ h.2⟩

theorem SeqMem.put_wf (m : SeqMem) (a : Nat) (v : Word) (h : m.wf = true) : (m.put a v).wf = true := by
  rw [SeqMem.wf_iff] at *
  exact ⟨h.1, swf_sput _ _ _ _ h.2⟩

theorem SeqMem.puts_wf (m : SeqMem) (a : Nat) (ws : List Word) (h : m.wf = true) : (m.puts a ws).wf = true := by
  induction ws generalizing m a with
  | nil => exact h
  | cons w r ih => exact ih _ _ (m.put_wf a w h)

theorem State.bankAccess_wf (s : State) (own : Nat) (world wr : Bool) (view b c : Nat) (v : Cont) (h : s.mem.wf = true) :
    (s.bankAccess own world wr view b c v).2.2.mem.wf = true := by
  unfold State.bankAccess
  dsimp only
  (repeat' split) <;> first | exact h | exact State.setCont_wf s _ _ _ h

theorem State.dramRead_wf (s : State) (a n : Nat) (h : s.mem.wf = true) : (s.dramRead a n).2.2.mem.wf = true := by
  unfold State.dramRead
  dsimp only
  split <;> exact h

theorem State.dramPut_wf (s : State) (f w : Bool) (a : Nat) (b : List Byte) (h : s.mem.wf = true) :
    (s.dramPut f w a b).2.mem.wf = true := by
  unfold State.dramPut
  split
  · exact h
  · exact s.dwrite_wf a b h

/-- A fold whose every step keeps a property keeps it. -/
theorem foldl_keeps {α β : Type} (P : β → Prop) (f : β → α → β) (l : List α) (b : β) (h : P b) (hf : ∀ b a, P b → P (f b a)) :
    P (l.foldl f b) := by
  induction l generalizing b with
  | nil => exact h
  | cons x r ih => exact ih _ (hf _ _ h)

/-! ### Reads after writes -/

theorem sget_dputs (m : Sparse Byte) (a : Nat) (b : List Byte) (k : Nat) :
    sget 0 (dputs m a b) k = if a ≤ k ∧ k < a + b.length then (b[k - a]?).getD 0 else sget 0 m k := by
  induction b generalizing m a with
  | nil =>
    rw [if_neg (by simp)]
    rfl
  | cons x r ih =>
    rw [dputs, ih, List.length_cons]
    by_cases h : k = a
    · subst h
      rw [if_neg (by omega), if_pos (by omega), sget_sput]
      simp
    · by_cases h1 : a + 1 ≤ k ∧ k < a + 1 + r.length
      · rw [if_pos h1, if_pos (by omega)]
        have : k - a = (k - (a + 1)) + 1 := by omega
        rw [this, List.getElem?_cons_succ]
      · rw [if_neg h1, if_neg (by omega), sget_sput_other _ _ _ _ _ h]

/-- A byte of DRAM after a write: the byte written, or what it held. -/
theorem State.dbyte_dwrite (s : State) (a : Nat) (b : List Byte) (k : Nat) :
    (s.dwrite a b).dbyte k = if a ≤ k ∧ k < a + b.length then (b[k - a]?).getD 0 else s.dbyte k := sget_dputs _ _ _ _

/-- A container after a write of one. -/
theorem State.cont_setCont (s : State) (b c b' c' : Nat) (v : Cont) (h : c < 262144) (h' : c' < 262144) :
    (s.setCont b c v).cont b' c' = if b' = b ∧ c' = c then v else s.cont b' c' := by
  show sget 0 (sput 0 s.mem.ph (262144 * b + c) v) (262144 * b' + c') = _
  rw [sget_sput]
  by_cases e : b' = b ∧ c' = c
  · rw [if_pos (by rw [e.1, e.2]), if_pos e]
  · rw [if_neg (by omega), if_neg e]
    rfl

/-- A word of data memory after a write of one: addresses wrap in the 18-bit data memory. -/
theorem SeqMem.word_put (m : SeqMem) (a b : Nat) (v : Word) :
    (m.put a v).word b = if b % 262144 = a % 262144 then v else m.word b := by
  unfold SeqMem.put SeqMem.word
  rw [sget_sput]
  by_cases e : b % 262144 = a % 262144
  · rw [if_pos e.symm, if_pos e]
  · rw [if_neg (fun h => e h.symm), if_neg e]

end Sys2Proof.Machine
end

