-- ==== Sys2Proof/Laws/Registers.lean ====
section
/-! SUPPORT. The register operands: what a write of one register does to every register, and what the issue of one instruction
answers. -/

namespace Sys2Proof.Machine

/-! ### Physical registers -/

theorem dPhys_lt (q : Seq) (r : Nat) (h : r < 32) : dPhys q r < 216 := by
  have := q.top.isLt
  unfold dPhys
  split
  · omega
  · split
    · split <;> omega
    · omega

theorem dPhys_inj (q : Seq) (a b : Nat) (ha : a < 32) (hb : b < 32) (h : dPhys q a = dPhys q b) : a = b := by
  have := q.top.isLt
  unfold dPhys at h
  (repeat' split at h) <;> omega

theorem dirty_set (d : BitVec 54) (g k : Nat) (hg : g < 54) :
    (d ||| BitVec.ofNat 54 (2 ^ g)).getLsbD k = (d.getLsbD k || decide (k = g)) := by
  simp only [BitVec.getLsbD_or, getLsbD_ofNat_two_pow]
  by_cases h : k = g
  · subst h
    simp [hg]
  · simp [h]

/-- R233: a write reaches its register, and every other physical register reads as before. -/
theorem physGet_physSet (q : Seq) (p k : Nat) (v : Word) (hp : p < 216) :
    physGet (physSet q p v) k = if k = p then v else physGet q k := by
  have hg : dGroup p < 54 := by unfold dGroup; omega
  unfold physGet physSet
  simp only [dirty_set _ _ _ hg]
  by_cases h : k = p
  · subst h
    simp
  · simp only [if_neg h, sget_sput_other _ _ _ _ _ h]
    by_cases hd : q.dDirty.getLsbD (dGroup p) = true
    · simp only [hd, if_true]
      by_cases hk : dGroup k = dGroup p
      · simp [hk, hd]
      · simp [hk]
    · simp only [hd]
      by_cases hk : dGroup k = dGroup p
      · rw [if_pos (by simp [hk]), if_neg (by simp), if_neg (by rw [hk]; simpa using hd)]
        have := sget_filter (0 : Word) q.dRegs (fun e => dGroup e != dGroup p) k
        rw [this]
        simp [hk]
      · simp only [hk, decide_false, Bool.or_false]
        have := sget_filter (0 : Word) q.dRegs (fun e => dGroup e != dGroup p) k
        split
        · rw [if_neg (by simp), this]
          simp [hk]
        · rfl

@[simp] theorem physSet_top (q : Seq) (p : Nat) (v : Word) : (physSet q p v).top = q.top := rfl
@[simp] theorem physSet_tw (q : Seq) (p : Nat) (v : Word) : (physSet q p v).tw = q.tw := rfl
@[simp] theorem physSet_cr (q : Seq) (p : Nat) (v : Word) : (physSet q p v).cr = q.cr := rfl
@[simp] theorem physSet_aRegs (q : Seq) (p : Nat) (v : Word) : (physSet q p v).aRegs = q.aRegs := rfl
@[simp] theorem physSet_acRegs (q : Seq) (p : Nat) (v : Word) : (physSet q p v).acRegs = q.acRegs := rfl
@[simp] theorem physSet_acDirty (q : Seq) (p : Nat) (v : Word) : (physSet q p v).acDirty = q.acDirty := rfl

/-- A D register is named by the same physical register where TOP and TW agree. -/
theorem dPhys_congr {q q' : Seq} (h : q'.top = q.top) (h' : q'.tw = q.tw) (r : Nat) : dPhys q' r = dPhys q r := by
  unfold dPhys
  rw [h, h']

/-! ### D and A registers -/

theorem dGet_dSet (q : Seq) (a b : Nat) (v : Word) (ha : a < 32) (hb : b < 32) :
    dGet (dSet q a v) b = if b = a then v else dGet q b := by
  unfold dGet dSet
  rw [dPhys_congr (q := q) (q' := physSet q (dPhys q a) v) rfl rfl b, physGet_physSet _ _ _ _ (dPhys_lt q a ha)]
  by_cases h : b = a
  · subst h
    simp
  · rw [if_neg h, if_neg (fun e => h (dPhys_inj q b a hb ha e))]

theorem daGet_daSet (q : Seq) (a b : Nat) (v : Word) (ha : a < 48) (hb : b < 48) :
    daGet (daSet q a v) b = if b = a then v else daGet q b := by
  unfold daGet daSet
  by_cases h1 : a < 32 <;> by_cases h2 : b < 32
  · simp only [h1, h2, if_true]
    exact dGet_dSet q a b v h1 h2
  · simp only [h1, h2, if_true, if_false]
    rw [if_neg (by omega)]
    rfl
  · simp only [h1, h2, if_true, if_false]
    rw [if_neg (by omega)]
    rfl
  · simp only [h1, h2, if_false, aGet, aSet, sget_sput]
    by_cases h : b = a
    · subst h
      simp
    · rw [if_neg (by omega), if_neg h]

/-- What a write of one D or A register does to every register. -/
theorem wrote_daSet (q : Seq) (r : Nat) (v : Word) (h : r < 48) : q.Wrote (daSet q r v) r v := by
  refine ⟨by simp [daGet_daSet q r r v h h], fun k hk hne => by simp [daGet_daSet q r k v h hk, hne], ?_, ?_⟩
  · intro p hp hne
    unfold daSet
    split
    · rename_i hr
      unfold dSet
      rw [physGet_physSet _ _ _ _ (dPhys_lt q r hr), if_neg (by omega)]
    · rfl
  · intro n
    unfold daSet
    split <;> rfl

/-- A step that changes nothing a register reads keeps what a write did. -/
theorem Seq.Wrote.congr {q q' q'' : Seq} {r : Nat} {v : Word} (h : q.Wrote q' r v) (h1 : q''.dRegs = q'.dRegs)
    (h2 : q''.dDirty = q'.dDirty) (h3 : q''.aRegs = q'.aRegs) (h4 : q''.acRegs = q'.acRegs) (h5 : q''.acDirty = q'.acDirty)
    (h6 : q''.top = q'.top) (h7 : q''.tw = q'.tw) : q.Wrote q'' r v := by
  have hp (p : Nat) : physGet q'' p = physGet q' p := by unfold physGet; rw [h1, h2]
  have hd (k : Nat) : daGet q'' k = daGet q' k := by
    unfold daGet dGet aGet
    rw [hp, h3, dPhys_congr h6 h7]
  have ha (n : Nat) : acGet q'' n = acGet q' n := by unfold acGet; rw [h4, h5]
  exact ⟨by rw [hd]; exact h.1, fun k hk hn => by rw [hd]; exact h.2.1 k hk hn,
    fun p hpp hn => by rw [hp]; exact h.2.2.1 p hpp hn, fun n => by rw [ha]; exact h.2.2.2 n⟩

/-! ### Accumulators -/

theorem acGet_acSet (q : Seq) (n k : Nat) (v : BitVec 72) (h : n < 8) :
    acGet (acSet q n v) k = if k = n then v else acGet q k := by
  unfold acGet acSet
  simp only [BitVec.getLsbD_or, getLsbD_ofNat_two_pow, sget_sput]
  by_cases hk : k = n
  · subst hk
    simp [h]
  · simp [hk, Ne.symm hk]

theorem wrote_acSet (q : Seq) (n : Nat) (v : BitVec 72) (h : n < 8) : q.WroteAc (acSet q n v) n v :=
  ⟨by simp [acGet_acSet q n n v h], fun k hk => by simp [acGet_acSet q n k v h, hk], fun _ => rfl, fun _ => rfl⟩

/-! ### Loads and stores -/

/-- The update of a base register changes the A registers alone. -/
theorem Seq.updateM_regs (q : Seq) (w : BitVec 40) : ∃ l, q.updateM w = { q with aRegs := l } := by
  unfold Seq.updateM
  simp only
  split <;> exact ⟨_, rfl⟩

/-- What the update of the base register leaves in every D and A register. -/
theorem Seq.daGet_updateM (q : Seq) (w : BitVec 40) (k : Nat) (h : k < 48) :
    daGet (q.updateM w) k = if k = 32 + fld w 30 4 then q.newBase w else daGet q k := by
  have hb : fMA w < 16 := Nat.mod_lt _ (by decide)
  by_cases hk : k < 32
  · rw [if_neg (by omega)]
    obtain ⟨l, e⟩ := q.updateM_regs w
    rw [e]
    unfold daGet
    rw [if_pos hk, if_pos hk]
    rfl
  · have key (v : Word) : daGet (aSet q (fMA w) v) k = if k = 32 + fld w 30 4 then v else daGet q k := by
      have := daGet_daSet q (32 + fMA w) k v (by omega) h
      simp only [daSet] at this
      rw [if_neg (by omega), Nat.add_sub_cancel_left] at this
      exact this
    have e : daGet q k = if k = 32 + fld w 30 4 then aGet q (fld w 30 4) else daGet q k := by
      split
      · rename_i hh; subst hh
        unfold daGet; rw [if_neg (by omega), Nat.add_sub_cancel_left]
      · rfl
    unfold Seq.updateM Seq.newBase fMode fImm
    generalize fld w 27 3 = m
    rcases m with _ | _ | _ | _ | _ | m
    · exact e
    · exact key _
    · exact key _
    · exact key _
    · exact key _
    · exact e

/-- A store moves the base register. -/
theorem Seq.moved_update (q : Seq) (w : BitVec 40) : q.Moved (q.updateM w) w none none := by
  obtain ⟨l, e⟩ := q.updateM_regs w
  refine ⟨fun k h => by simpa using q.daGet_updateM w k h, fun p _ _ => by rw [e]; rfl, fun m => by rw [e]; rfl⟩

theorem dPhys_updateM (q : Seq) (w : BitVec 40) (r : Nat) : dPhys (q.updateM w) r = dPhys q r := by
  obtain ⟨l, e⟩ := q.updateM_regs w
  rw [e]; rfl

/-- A load of one word. -/
theorem Seq.moved_load (q : Seq) (w : BitVec 40) (r : Nat) (v : Word) (h : r < 48) :
    q.Moved (daSet (q.updateM w) r v) w (some (r, v)) none := by
  obtain ⟨w1, w2, w3, w4⟩ := wrote_daSet (q.updateM w) r v h
  obtain ⟨u1, u2, u3⟩ := q.moved_update w
  refine ⟨fun k hk => ?_, fun p hp he => ?_, fun m => by rw [w4]; exact u3 m⟩
  · by_cases hkr : k = r
    · subst hkr; simp [w1]
    · rw [w2 k hk hkr, u1 k hk]
      simp [Ne.symm hkr]
  · have := he _ rfl
    rw [w3 p hp (by rw [dPhys_updateM]; exact this)]
    exact u2 p hp (by simp)

/-- A load of an accumulator. -/
theorem Seq.moved_loadAc (q : Seq) (w : BitVec 40) (n : Nat) (v : BitVec 72) (h : n < 8) :
    q.Moved (acSet (q.updateM w) n v) w none (some (n, v)) := by
  obtain ⟨u1, u2, u3⟩ := q.moved_update w
  refine ⟨fun k hk => u1 k hk, fun p hp he => u2 p hp he, fun m => ?_⟩
  rw [acGet_acSet _ _ _ _ h, u3 m]
  by_cases e : m = n
  · simp [e]
  · simp [e, Ne.symm e]

/-- A step that changes nothing a register reads keeps what a load or store did. -/
theorem Seq.Moved.congr {q q' q'' : Seq} {w : BitVec 40} {r : Option (Nat × Word)} {a : Option (Nat × BitVec 72)} (h : q.Moved q' w r a)
    (h1 : q''.dRegs = q'.dRegs) (h2 : q''.dDirty = q'.dDirty) (h3 : q''.aRegs = q'.aRegs) (h4 : q''.acRegs = q'.acRegs)
    (h5 : q''.acDirty = q'.acDirty) (h6 : q''.top = q'.top) (h7 : q''.tw = q'.tw) : q.Moved q'' w r a := by
  have hp (p : Nat) : physGet q'' p = physGet q' p := by unfold physGet; rw [h1, h2]
  have hd (k : Nat) : daGet q'' k = daGet q' k := by unfold daGet dGet aGet; rw [hp, h3, dPhys_congr h6 h7]
  have ha (n : Nat) : acGet q'' n = acGet q' n := by unfold acGet; rw [h4, h5]
  exact ⟨fun k hk => by rw [hd]; exact h.1 k hk, fun p hp' he => by rw [hp]; exact h.2.1 p hp' he, fun n => by rw [ha]; exact h.2.2 n⟩

/-! ### Issue -/

/-- One instruction whose checks pass has its effect in its issue cycle. -/
theorem State.Issues.instr {s t : State} {srcs : List Nat} (h : s.Issues srcs t) (causes : State → List Nat)
    (body : State → State) (hc : causes t = []) : s.instr srcs causes body = body t := by
  obtain ⟨h1, h2, h3, h4⟩ := h
  simp [State.instr, State.instrNote, h1, h2, h3, h4, hc, lowestCause]

/-- One instruction with a cause of its own traps in its issue cycle with the lowest. -/
theorem State.Issues.instr_trap {s t : State} {srcs : List Nat} (h : s.Issues srcs t) (causes : State → List Nat)
    (body : State → State) (c : Nat) (hc : lowestCause (causes t) = some c) : s.instr srcs causes body = t.trap c := by
  obtain ⟨h1, h2, h3, h4⟩ := h
  simp [State.instr, State.instrNote, h1, h2, h3, h4, hc]

theorem State.Issues.instrNote {s t : State} {srcs : List Nat} (h : s.Issues srcs t) (causes : State → List Nat)
    (note : Nat → State → State) (body : State → State) (hc : causes t = []) :
    s.instrNote srcs causes note body = body t := by
  obtain ⟨h1, h2, h3, h4⟩ := h
  simp [State.instrNote, h1, h2, h3, h4, hc, lowestCause]

theorem State.Issues.simple {s t : State} {srcs : List Nat} (h : s.Issues srcs t) {legal : Bool} (hl : legal = true)
    (n : State → Nat) (f : Seq → Seq) : s.simple srcs legal n f = (t.mapSeq f).retire (n t) :=
  h.instr _ _ (by simp [hl])

theorem retired_advance (q : Seq) (t n : Nat) :
    q.Retired { q.advance with freeAt := t + n, loaded := none } t n := by
  unfold Seq.Retired Seq.advance Seq.nextPc
  split
  · rename_i h
    simp [h]
  · rename_i h
    have : q.rptc.toNat ≠ 0 := fun e => h (BitVec.eq_of_toNat_eq (by simpa using e))
    by_cases h1 : q.rptc = 1
    · simp [h1]
    · have : q.rptc.toNat ≠ 1 := fun e => h1 (BitVec.eq_of_toNat_eq (by simpa using e))
      have h2 : ¬ q.rptc.toNat ≤ 1 := by omega
      simp only [if_neg h2]
      exact ⟨if_neg h1, trivial, trivial, trivial⟩

end Sys2Proof.Machine
end

