-- ==== Sys2Proof/Laws/Requests.lean ====
section
/-! SUPPORT. Requests: what the interpreter answers to a packet, once for every row. -/

namespace Sys2Proof.Machine

/-- A packet that the interpreter takes: the first failing check answers, else the command is carried out. -/
theorem State.request_taken {s t : State} {p : Port} {q : Request} (hi : s.interprets (.ring p) = true)
    (ht : s.takePacket p q = (true, t)) (g : State → Demand) (act : State → State) :
    s.request (.ring p) q g act = if (t.check (.ring p) q (g t)).1 = .ok then act t
      else t.refuse (.ring p) q (t.check (.ring p) q (g t)).1 (t.check (.ring p) q (g t)).2 := by
  simp only [State.request, hi, ht]
  simp

/-- A port whose requests are not taken leaves the packet. -/
theorem State.request_held {s : State} {v : Via} (hi : s.interprets v = false) (q : Request) (g : State → Demand)
    (act : State → State) : s.request v q g act = s := by
  simp [State.request, hi]

/-- A request that meets every condition passes the checks. -/
theorem State.check_of_accepts {s t : State} {p : Port} {q : Request} {d : Demand} (h : s.Accepts t p q d) :
    t.check (.ring p) q d = (.ok, 0) := by
  obtain ⟨-, -, htop, hcrc, hver, hop, hses, hopt, hblk, hf, hp, hm, hx, hl⟩ := h
  have h5 : t.check5 (.ring p) q d.ver = .ok := by
    have ha : ([q.w0, q.w1, q.w2, q.w3] ++ q.conts).any (fun c => fld c 24 8 != 0) = false := by
      rw [List.any_eq_false]
      intro c hc
      simp [htop c hc]
    have hv : (q.op ≠ 1 && (decide (t.agreed (.ring p) < q.ver) || (opListed q.op && decide (q.ver < d.ver)))) = false := by
      rcases hver with h | ⟨h1, h2⟩
      · simp [h]
      · simp [hop]; omega
    simp only [State.check5, ha, hcrc, hop, hses]
    simp only [Via.port]
    simp at hv
    simp_all
  have hb : (fld q.w1 1 7 ≠ 0 || !(q.block == 0 || blockListed q.block)
      || (q.block != 0 && !([0x70, 0x7E, 0x7F].contains q.op)) || !d.fields) = false := by
    rcases hblk with h | ⟨h1, h2⟩
    · simp [hopt, h, hf]
    · simp only [List.contains_iff_mem.mpr h2, hopt, h1, hf]; simp
  simp only [State.check, h5, hp, hm, hx, hl]
  simp at hb
  simp_all

/-- A row that is a request with its demand does what its outcome says. -/
theorem State.rowDoes_of_request {s t : State} {p : Port} {q : Request} {c : Instr} (g : State → Demand) (act : State → State)
    {d : Demand} {u : State} (he : exec c s = .next (s.request (.ring p) q g act)) (hd : g t = d) (hu : act t = u) :
    s.RowDoes t p q c d u := by
  constructor
  · intro h
    rw [he, State.request_taken h.1 h.2.1, hd, hu, State.check_of_accepts h]
    simp
  · intro hi ht st n hc hn
    rw [he, State.request_taken hi ht, hd, hc]
    simp [hn]

end Sys2Proof.Machine
end

