-- ==== Sys2Proof/Laws/Windows.lean ====
section
/-! SUPPORT. What an access through a window can do to the sequencer and its memories: nothing. -/

namespace Sys2Proof.Machine

/-! ### The place of an address -/

theorem placeOf_bank {a : Nat} (h : 0x100000 ≤ a) (h' : a < 0x140000) : placeOf a = .bank := by
  unfold placeOf
  rw [if_neg (by omega), if_neg (by omega), if_neg (by omega), if_pos h']

theorem placeOf_dram {a : Nat} (h : 0x800000 ≤ a) : placeOf a = .dram := by
  unfold placeOf
  rw [if_neg (by omega), if_neg (by omega), if_neg (by omega), if_neg (by omega), if_neg (by omega)]

/-! ### The sequencer and its memories stay -/

/-- Neither the sequencer nor its memories have changed. -/
def State.SameSeq (s t : State) : Prop := t.seq = s.seq ∧ t.smem = s.smem ∧ t.cycle = s.cycle

theorem State.SameSeq.refl (s : State) : s.SameSeq s := ⟨rfl, rfl, rfl⟩

theorem State.SameSeq.trans {s t u : State} (h : s.SameSeq t) (h' : t.SameSeq u) : s.SameSeq u :=
  ⟨h'.1.trans h.1, h'.2.1.trans h.2.1, h'.2.2.trans h.2.2⟩

theorem State.putRaw_same (s : State) (b c : Nat) (ws : List Cont) : s.SameSeq (s.putRaw b c ws) := by
  induction ws generalizing s c with
  | nil => exact .refl s
  | cons w r ih => exact State.SameSeq.trans (⟨rfl, rfl, rfl⟩ : s.SameSeq (s.setCont b c w)) (ih (s.setCont b c w) (c + 1))

theorem State.probeSee_same (s : State) (r port : Nat) (h : BitVec 256) (i : Nat) : s.SameSeq (s.probeSee r port h i) := by
  unfold State.probeSee
  simp only
  split
  · exact .refl s
  · split
    · exact ⟨rfl, rfl, rfl⟩
    · split
      · exact ⟨rfl, rfl, rfl⟩
      · split
        · exact ⟨rfl, rfl, rfl⟩
        · have := State.putRaw_same (s.drawn.drawn.mapNoc (fun n => { n with cycles := s.noc.cycles + s.freeBits 48 })) (s.probe i).bank
            (8 * ((s.probe i).wpos % 32768)) (traceRecord (s.noc.cycles + s.freeBits 48) r port h)
          exact ⟨this.1, this.2.1, this.2.2⟩

theorem State.probesSee_same (s : State) (r port : Nat) (h : BitVec 256) : s.SameSeq (s.probesSee r port h) := by
  have key (l : List Nat) (t : State) : t.SameSeq (l.foldl (fun s i => s.probeSee r port h i) t) := by
    induction l generalizing t with
    | nil => exact .refl t
    | cons i l ih =>
      rw [List.foldl_cons]
      exact State.SameSeq.trans (State.probeSee_same t r port h i) (ih (t.probeSee r port h i))
  exact key (List.range 16) s

theorem State.passAlong_succ (s : State) (r c : Nat) (rest : List Nat) (k : Nat) (h : BitVec 256) : s.passAlong r (c :: rest) (k + 1) h =
    (s.probesSee r c (if hTree h then h else setFld h 0 36 (packCodes rest))).passAlong (linkTo r c) rest k h := by
  conv =>
    lhs
    unfold State.passAlong

theorem State.passAlong_same (s : State) (r : Nat) (codes : List Nat) (k : Nat) (h : BitVec 256) :
    s.SameSeq (s.passAlong r codes k h) := by
  induction k generalizing s r codes with
  | zero => cases codes <;> exact .refl s
  | succ k ih =>
    cases codes with
    | nil => exact .refl s
    | cons c rest =>
      rw [State.passAlong_succ]
      exact (State.probesSee_same s r c _).trans (ih _ _ _)

theorem State.seen_same (s : State) (x : Transfer) (st : Status) : s.SameSeq (s.seen x st) := by
  unfold State.seen
  simp only
  split
  · exact .refl s
  · exact State.SameSeq.trans (⟨rfl, rfl, rfl⟩ : s.SameSeq s.drawn)
      ((State.passAlong_same s.drawn _ _ _ _).trans (State.passAlong_same _ _ _ _ _))

theorem State.seenBack_same (s : State) (x : Transfer) (st : Status) : s.SameSeq (s.seenBack x st) := by
  unfold State.seenBack
  simp only
  split
  · exact .refl s
  · exact State.SameSeq.trans (⟨rfl, rfl, rfl⟩ : s.SameSeq s.drawn)
      ((State.passAlong_same s.drawn _ _ _ _).trans ((State.passAlong_same _ _ _ _ _).trans (State.passAlong_same _ _ _ _ _)))

theorem State.windowLost_same (s : State) (x : Transfer) (st : Status) (t : State) (h : s.windowLost x = some (st, t)) :
    s.SameSeq t := by
  unfold State.windowLost at h
  split at h
  · cases h; exact .refl s
  · split at h
    · cases h
      exact State.SameSeq.trans (⟨rfl, rfl, rfl⟩ : s.SameSeq (s.noteReceipt x.src x.dst st)) (State.seenBack_same _ _ _)
    · cases h

theorem State.bankAccess_same (s : State) (own : Nat) (world wr : Bool) (view b c : Nat) (v : Cont) :
    s.SameSeq (s.bankAccess own world wr view b c v).2.2 := by
  unfold State.bankAccess
  simp only
  repeat' split
  all_goals exact ⟨rfl, rfl, rfl⟩

theorem State.dramGet_same (s : State) (firm w : Bool) (a n : Nat) : s.SameSeq (s.dramGet firm w a n).2.2 := by
  unfold State.dramGet State.dramRead
  simp only
  repeat' split
  all_goals exact ⟨rfl, rfl, rfl⟩

theorem State.dramPut_same (s : State) (firm w : Bool) (a : Nat) (b : List Byte) : s.SameSeq (s.dramPut firm w a b).2 := by
  unfold State.dramPut
  split <;> exact ⟨rfl, rfl, rfl⟩

theorem State.windowRead_same (s : State) (a : Nat) : s.SameSeq (s.windowRead a).2.2 := by
  unfold State.windowRead
  simp only
  split
  · exact State.bankAccess_same s _ _ _ _ _ _ _
  · exact State.dramGet_same s _ _ _ _

theorem State.windowWrite_same (s : State) (a : Nat) (v : Word) : s.SameSeq (s.windowWrite a v).2 := by
  unfold State.windowWrite
  simp only
  split
  · exact State.bankAccess_same s _ _ _ _ _ _ _
  · exact State.dramPut_same s _ _ _ _

/-- A load of one word through a window. -/
theorem State.windowLoad_same (s : State) (a : Nat) : s.SameSeq (s.windowLoad a).2.2 := by
  unfold State.windowLoad
  simp only
  split
  · exact State.windowLost_same s _ _ _ ‹_›
  · exact (State.windowRead_same s a).trans (State.seen_same _ _ _)

/-- A store of one word through a window. -/
theorem State.windowStore_same (s : State) (a : Nat) (v : Word) : s.SameSeq (s.windowStore a v).2 := by
  unfold State.windowStore
  simp only
  split
  · exact State.windowLost_same s _ _ _ ‹_›
  · exact (State.windowWrite_same s a v).trans (State.seen_same _ _ _)

/-- Words loaded through windows. -/
theorem State.loadWords_same (s : State) (a n : Nat) (h : 0x100000 ≤ a ∧ a + n ≤ 0x140000 ∨ 0x800000 ≤ a ∧ a + n ≤ 0x1000000) :
    s.SameSeq (s.loadWords a n).2.2.2 := by
  induction n generalizing s a with
  | zero => exact .refl s
  | succ n ih =>
    have hl : s.loadWord a = s.windowLoad a := by
      unfold State.loadWord
      rcases h with h | h
      · rw [placeOf_bank h.1 (by omega)]
      · rw [placeOf_dram h.1]
    have h1 := State.windowLoad_same s a
    rw [← hl] at h1
    unfold State.loadWords
    split
    · rename_i v t e
      rw [e] at h1
      by_cases hn : n = 0
      · subst hn; exact h1
      · rw [Nat.mod_eq_of_lt (by omega)]
        exact h1.trans (ih t (a + 1) (by omega))
    · rename_i e
      rw [e] at h1
      exact h1

/-- Words stored through windows. -/
theorem State.storeWords_same (s : State) (a : Nat) (ws : List Word)
    (h : 0x100000 ≤ a ∧ a + ws.length ≤ 0x140000 ∨ 0x800000 ≤ a ∧ a + ws.length ≤ 0x1000000) :
    s.SameSeq (s.storeWords a ws).2.2 := by
  induction ws generalizing s a with
  | nil => exact .refl s
  | cons w ws ih =>
    simp only [List.length_cons] at h
    have hl : s.storeWord a w = s.windowStore a w := by
      unfold State.storeWord
      rcases h with h | h
      · rw [placeOf_bank h.1 (by omega)]
      · rw [placeOf_dram h.1]
    have h1 := State.windowStore_same s a w
    rw [← hl] at h1
    unfold State.storeWords
    split
    · rename_i t e
      rw [e] at h1
      by_cases hn : ws = []
      · subst hn; exact h1
      · have : 0 < ws.length := List.length_pos_iff.mpr hn
        rw [Nat.mod_eq_of_lt (by omega)]
        exact h1.trans (ih t (a + 1) (by omega))
    · rename_i e
      rw [e] at h1
      exact h1

end Sys2Proof.Machine
end

