-- ==== Sys2Proof/Tests/Slice0.lean ====
section
/-! SUPPORT. Ill-formed commands that the checks refuse, results worked out by hand from the spec's tables, and for every
statement a state and operands that meet its hypotheses. -/

set_option Elab.async false

namespace Sys2Proof.Tests
open Sys2Proof Sys2Proof.Machine

/-! ### Small machines -/

/-- The module after start-up, in a mode: every domain on, both links up, every PLL locked. -/
def up (m : Mode) : State :=
  ({ State.reset with
     cv := { Canvas.reset with power := BitVec.allOnes 272 }
     sys := { System.reset with
       mode := m, boot := .done, on := BitVec.allOnes 357, pa := HostPort.reset true, pb := HostPort.reset true } } : State).setReg bCLK 0
    0xFFF000

/-- In RUN, with D8 = `x`, D9 = `y` and A0 = `a`. -/
def run (x y a : Word) : State := (up .run).mapSeq (fun q => daSet (daSet (daSet q 8 x) 9 y) 32 a)

/-- Operand bits of format RRR: d, s1, s2, s3. -/
def rrr (d a b c : Nat) : BitVec 40 := BitVec.ofNat 40 (d * 2 ^ 34 + a * 2 ^ 28 + b * 2 ^ 22 + c * 2 ^ 16)
/-- Operand bits of format RRI: d, s1, imm. -/
def rri (d a i : Nat) : BitVec 40 := BitVec.ofNat 40 (d * 2 ^ 34 + a * 2 ^ 28 + i)
/-- Operand bits of format M: d, base, mode, operand. -/
def fm (d a m i : Nat) : BitVec 40 := BitVec.ofNat 40 (d * 2 ^ 34 + a * 2 ^ 30 + m * 2 ^ 27 + i)

/-- A register after a command, `none` where it gives no next state. -/
def after {α : Type} (s : State) (c : Instr) (f : State → α) : Option α :=
  match exec c s with | .next t => some (f t) | _ => none

/-- The state in which an instruction reading `srcs` issues exists. -/
def issues (s : State) (srcs : List Nat) : Bool :=
  s.issuing && (s.toIssue srcs).issuing && (s.toIssue srcs).interruptDue.isNone && (s.toIssue srcs).fetchCauses.isEmpty

theorem issues_spec (s : State) (srcs : List Nat) (h : issues s srcs = true) : ∃ t, s.Issues srcs t := by
  simp [issues, Bool.and_eq_true, List.isEmpty_iff] at h
  exact ⟨_, h.1.1.1, rfl, h.1.1.2, h.1.2, h.2⟩

/-! ### Well-formed commands -/

/-- A request packet with a good CRC. -/
def req (op ver sess block : Nat) (l : List Nat) : Request :=
  let pl : List Cont := l.map (BitVec.ofNat 32)
  { w0 := BitVec.ofNat 32 (op * 65536 + ver * 4096 + l.length), w1 := 0, w2 := BitVec.ofNat 32 (sess * 4096 + block),
    w3 := (crc24 (pl.map (fun c => c.setWidth 24))).setWidth 32, payload := pl }

theorem test_listed_instruction_is_not_illegal : (Instr.illegalInstruction 0x080000000000#48).wellFormed = false := by decide +kernel
theorem test_unlisted_instruction_is_illegal : (Instr.illegalInstruction 0x2A0000000000#48).wellFormed = true := by decide +kernel
theorem test_listed_request_is_not_unknown : (Instr.unknownOpcodeRequest .a (req 0x21 2 0 0 [0])).wellFormed = false := by decide +kernel
theorem test_zero_request_is_not_unknown : (Instr.unknownOpcodeRequest .a (req 0 1 0 0 [])).wellFormed = false := by decide +kernel
theorem test_unlisted_request_is_unknown : (Instr.unknownOpcodeRequest .a (req 0x04 1 0 0 [])).wellFormed = true := by decide +kernel
theorem test_bypass_of_another_opcode : (Instr.bypass 0x02).wellFormed = false ∧ (Instr.bypass 0x07).wellFormed = true := by decide +kernel
theorem test_request_of_another_opcode : (Instr.hello .a (req 0x02 1 0 0 [0])).wellFormed = false := by decide +kernel
theorem test_request_of_another_selector : (Instr.getInfoIdentity .a (req 0x02 1 0 0 [2])).wellFormed = false := by decide +kernel
theorem test_request_of_no_selector : (Instr.getInfoIdentity .a (req 0x02 1 0 0 [3])).wellFormed = true := by decide +kernel
theorem test_ill_formed_is_refused :
    (match exec (.hello .a (req 0x02 1 0 0 [0])) State.reset with | .refused .illFormed => true | _ => false) = true := by
  decide +kernel

/-! ### The machine's frame -/

theorem test_hyp_StepRunsFrontCommand : State.reset.pending = [] ∧ (State.reset.push .beat).pending = [.beat] := ⟨rfl, rfl⟩
theorem test_hyp_IdleStep : State.reset.sys.sems = [] ∧ State.reset.sys.params = none ∧ (∀ p, (State.reset.port p).jobs = [])
    ∧ State.reset.sys.boot ≠ .done ∧ State.reset.running = false ∧ (∀ r < 16, State.reset.rstate r ≠ 3)
    ∧ (∀ l < 144, State.reset.laneState l = 0) :=
  ⟨rfl, rfl, fun p => by cases p <;> rfl, by decide, by decide +kernel, by decide +kernel, by decide +kernel⟩
theorem test_hyp_WordsRun : (run 5 7 0).pending = [] ∧ (run 5 7 0).microsecond.running = true ∧ (run 5 7 0).microsecond.seq.wait = .none
    ∧ fld (0x2A0000000000#48) 40 8 = 0x2A ∧ fld (0xC60000000000#48) 40 8 = 0xC6 := by decide +kernel
theorem test_hyp_ServiceCores :
    (let s := up .run
     let c : Core := { Core.reset with seq := { Core.reset.seq with tw := true } }
     s.sys.cores[3]? == some Core.reset && s.sys.coresUp.getLsbD 3 && issues (s.seenBy 3 Core.reset) [] && fld (0x800000000000#48) 40 8 == 0x80
       && !(s.coreWord 3 Core.reset 0x800000000000).seq.stopped && (s.coreWord 3 c 0x800000000000).seq.stopped) = true := by decide +kernel
theorem test_hyp_ServiceCoreWindow :
    (let s := up .run
     let c : Core := { Core.reset with seq := { Core.reset.seq with wait := .window 0x30 0 } }
     let u := s.mapSys (fun y => { y with cores := y.cores.set 3 c })
     u.sys.cores[3]? == some c && c.seq.wait.stallsStream && !(u.coreWord 3 c 0).seq.stopped && Core.reset.seq.wait == .none
       && (s.seenBy 3 c).seq.unit == 7) = true := by decide +kernel
theorem test_opcode_column :
    (match (run 1 2 0).runWord (0x030000000000 + (rrr 10 8 9 0).setWidth 48) with | t => daGet t.seq 10) = 3 := by decide +kernel
theorem test_hyp_StepKeepsMemoriesCanonical :
    State.reset.memoriesCanonical = true ∧ ∃ t, step (State.reset.push .beat) = .next t := ⟨by decide +kernel, _, rfl⟩
theorem test_hyp_WellFormedCommandsRun :
    (Instr.beat).wellFormed = true ∧ (Instr.illegalInstruction 0).wellFormed = false ∧ (Instr.bypass 0x10).wellFormed = false := by decide +kernel

/-! ### Scalar results -/

theorem test_add_wraps : after (run 0xFFFFFF 2 0) (.add (rrr 10 8 9 0)) (fun t => (daGet t.seq 10, t.seq.cr)) = some (1, 0b00010) := by
  decide +kernel
theorem test_sub_borrows : after (run 5 7 0) (.sub (rrr 10 8 9 0)) (fun t => (daGet t.seq 10, t.seq.cr)) = some (0xFFFFFE, 0b01000) := by
  decide +kernel
theorem test_add_to_address_keeps_flags : after (run 0x7FFFFF 1 0) (.add (rrr 47 8 9 0)) (fun t => (daGet t.seq 47, t.seq.cr))
    = some (0x800000, 0) := by decide +kernel
theorem test_neg_most_negative : after (run 0x800000 0 0) (.neg (rrr 10 8 0 0)) (fun t => (daGet t.seq 10, t.seq.cr))
    = some (0x800000, 0b01001) := by decide +kernel
theorem test_shl_by_width : after (run 0x000001 0 0) (.shli (rri 10 8 24)) (fun t => (daGet t.seq 10, t.seq.cr))
    = some (0, 0b00110) := by decide +kernel
theorem test_shift_by_zero_keeps_flags : after (run 0x800000 0 0) (.sari (rri 10 8 0)) (fun t => (daGet t.seq 10, t.seq.cr))
    = some (0x800000, 0) := by decide +kernel
theorem test_sar_past_width : after (run 0x800000 0 0) (.sari (rri 10 8 25)) (fun t => (daGet t.seq 10, t.seq.cr))
    = some (0xFFFFFF, 0b01010) := by decide +kernel
theorem test_ror_by_one : after (run 0x000001 0 0) (.rori (rri 10 8 1)) (fun t => (daGet t.seq 10, t.seq.cr))
    = some (0x800000, 0b01010) := by decide +kernel
theorem test_muls_of_negatives : after (run 0xFFFFFF 0xFFFFFF 0) (.muls (rrr 48 8 9 0)) (fun t => acGet t.seq 0) = some 1 := by decide +kernel
theorem test_divs_truncates : after (run 0xFFFFF9 2 0) (.divs (rrr 10 8 9 0)) (fun t => (daGet t.seq 10, daGet t.seq 11, t.seq.freeAt))
    = some (0xFFFFFD, 0xFFFFFF, 10) := by decide +kernel
theorem test_divu_by_zero : after (run 5 0 0) (.divu (rrr 10 8 9 0)) (fun t => (daGet t.seq 10, daGet t.seq 11, t.seq.cr))
    = some (0xFFFFFF, 5, 0b10000) := by decide +kernel
theorem test_store_then_load : after (run 0x123456 0 0x3FFFF) (.st (fm 8 0 0 0)) (fun t => (t.smem.word 0x3FFFF, t.smem.word 0x3FFFE))
    = some (0x123456, 0) := by decide +kernel
theorem test_call_links : after (run 0 0 0) (.call 0x00100) (fun t => (t.seq.pc, daGet t.seq 31, t.seq.freeAt)) = some (0x100, 1, 2) := by
  decide +kernel

/-! ### Hypotheses of the scalar statements -/

/-- In RUN with a change to the sequencer. -/
def runWith (f : Seq → Seq) : State := (run 5 7 0x3FFFD).mapSeq f

theorem test_hyp_AddAndSubtract : (issues (run 5 7 0) [8, 9] && issues (run 5 7 0) [8] && legalRRR isDA isDA isDA unused (rrr 47 8 9 0)
    && legalRRI isDA isDA (rri 31 8 0xFFFFFF) && legalRRR unused isDA isDA unused (rrr 0 8 9 0) && legalRRI unused isDA (rri 0 8 0)) = true := by
  decide +kernel
theorem test_hyp_LogicAndMoves : (issues (run 5 7 0) [] && issues (run 5 7 0) [8] && legalRRR isDA isDA unused unused (rrr 47 8 0 0)
    && legalRRR unused unused unused unused (rrr 0 0 0 0) && legalRRI isDA unused (rri 47 0 0xFFFFFF)) = true := by decide +kernel
theorem test_hyp_Shifts : ([0, 1, 23, 24, 25, 0xFFFFFF].all (fun c => legalRRI isDA isDA (rri 31 8 c))
    && issues (run 5 7 0) [8, 9] && legalRRR isDA isDA isDA unused (rrr 31 8 9 0)) = true := by decide +kernel
theorem test_hyp_Multiplies : ([(0x000000#24, false, 1), (0x00000F, false, 1), (0x000010, false, 2), (0x800000, false, 6),
      (0xFFFFFF, true, 1), (0x7FFFFF, true, 6), (0x000008, true, 1)].all (fun e =>
        let fits (k : Nat) : Bool := (List.range 24).all (fun i => i < 4 * k || e.1.getLsbD i == (e.2.1 && e.1.getLsbD 23))
        fits e.2.2 && (List.range e.2.2).all (fun j => j == 0 || !fits j))
    && issues (run 5 7 0) [8, 9] && issues (run 5 7 0) [8, 9, 48] && legalRRR isAC isDA isDA unused (rrr 55 8 9 0)
    && issues (runWith (fun q => { q with locked := true })) [8, 9]) = true := by decide +kernel
theorem test_hyp_AccumulatorParts : (issues (run 5 7 0) [48] && legalRRI isDA isAC (rri 47 48 2) && legalRRI isAC isDA (rri 55 8 0)
    && issues (run 5 7 0) [8, 55] && legalRRR isAC unused unused unused (rrr 55 0 0 0)) = true := by decide +kernel
theorem test_hyp_Divides : (issues (run 5 0 0) [8, 9] && issues (run 0x800000 0xFFFFFF 0) [8, 9] && issues (run 5 7 0) [8, 9]
    && legalRRR isEvenD isDA isDA unused (rrr 30 8 9 0)) = true := by decide +kernel
theorem test_hyp_LoadsAndStores :
    ([(fm 8 0 0 2, 1), (fm 48 0 0 0, 3), (fm 40 0 1 1, 1), (fm 8 0 2 1, 1), (fm 8 0 3 1, 1), (fm 8 0 4 1, 1)].all (fun e =>
      let s := run 5 7 0x3FFFD
      issues s ([fRd e.1, 32] ++ (if 3 ≤ fld e.1 27 3 then [33] else [])) && issues s (32 :: if 3 ≤ fld e.1 27 3 then [33] else [])
        && (if e.2 = 3 then isAC (fRd e.1) else isDA (fRd e.1)) && decide (fld e.1 27 3 ≤ 4) && fld e.1 24 3 == 0
        && (fld e.1 27 3 < 3 || fld e.1 4 20 == 0) && decide (s.seq.usedAddress e.1 + e.2 ≤ 2 ^ 18) && s.seq.world)
    && (let s := runWith (fun q => { q with world := false, dsecBase := 0x40000 })
        issues s [8, 32] && decide (s.seq.usedAddress (fm 8 0 0 2) + 1 ≤ s.seq.dsecBase.toNat))) = true := by decide +kernel
/-- In RUN with A0 = `a`, waiting for a window access of opcode `op`: bank 5 is the sequencer's, DRWIN reaches the firmware's 64th window. -/
def window (a : Word) (op : Nat) (w : BitVec 40) : State :=
  (((run 5 7 a).setRfld bPH 0x105 0 8 3)).mapSeq (fun q => { q with phwin := 5, drwin := 64, wait := .window op w })

theorem test_hyp_Windows : ([0x100000#24, 0x13FFFF, 0x800000, 0xFFFFFF].all (fun a =>
      issues (run 5 7 a) [8, 32] && (run 5 7 a).seq.usedAddress (fm 8 0 0 0) == a.toNat
        && ((window a 0x30 (fm 8 0 0 0)).loadWords a.toNat 1).1 == .ok && ((window a 0x31 (fm 8 0 0 0)).storeWords a.toNat [5]).1 == .ok)
    && ((window 0x13FFFD 0x32 (fm 48 0 0 0)).loadWords 0x13FFFD 3).1 == .ok
    && (let w := fm 8 0 0 0
        let s := window 0x13FFFF 0x30 w
        !s.windowHeld && s.routed && ((s.setRfld bPH 0x105 0 8 4).loadWords 0x13FFFF 1).1 != .ok
          && ((s.setRfld bPH 0x105 0 8 4).storeWords 0x13FFFF [5]).1 != .ok
          && (s.bounced 106 33).isNone && s.sys.clears.isEmpty && !s.wiping 5 && !s.bankWorld 5 && s.bankAllows 5 3 true false
          && s.bankAllows 5 3 true true && fld s.seq.phwin 6 2 == 0 && s.mem.phBad.isEmpty && s.noc.probes.isEmpty && s.seq.unit == 3
          && (s.windowLost (s.seq.windowTransfer 0x13FFFF false)).isNone
          && (s.setRfld bNOC 0x121 22 1 0).bounced 106 33 == some .busy)
    && (let s := window 0xFFFFFF 0x31 (fm 8 0 0 0)
        let d := 64 * 2 ^ 25 + 4 * 0x7FFFFF
        (s.bounced 106 (dramNi d)).isNone && (s.dramBarFor false true d 4).isNone && s.mem.dramBad.isEmpty && s.routed && !s.windowHeld)) = true := by
  decide +kernel
theorem test_hyp_WindowHeld : ((window 0x100000 0x30 (fm 8 0 0 0)).setRfld bNOC (0x100 + 33) 20 2 1).windowHeld = true := by decide +kernel
theorem test_hyp_SystemRegisters : (issues (run 5 7 0) [] && (run 5 7 0).seq.priv && (run 5 7 0).seq.job.isNone
    && (run 5 7 0).seq.ptrWrites.isEmpty && isDA 47 && issues (runWith (fun q => { q with job := some ⟨false, 3⟩ })) []) = true := by
  decide +kernel
theorem test_hyp_Context : (issues (run 5 7 0) [] && (run 5 7 0).seq.world && (run 5 7 0).seq.res == 1 && !(run 5 7 0).seq.locked
    && decide (fld (0x3FFC6#24) 0 19 + 58 ≤ 2 ^ 18) && (run 5 7 0).smem.dmemBad.isEmpty
    && fld ((run 5 7 0).smem.word 0x3FFC6) 16 8 == 0) = true := by decide +kernel

/-! ### Floating point -/

theorem test_fadd_one_and_one : (fpOp f32 0 0 0x3F800000 0x3F800000 0) = ⟨0x40000000, 0⟩ := by decide +kernel
theorem test_fdiv_one_by_three_rounds : (fpOp f32 0 4 0x3F800000 0x40400000 0) = ⟨0x3EAAAAAB, 0b10000⟩ := by decide +kernel
theorem test_fcvt_unsigned_all_ones : (fromInt f32 1 0xFFFFFF) = ⟨0x4B7FFFFF, 0⟩ := by decide +kernel

/-- In RUN with accumulators 0 to 2 and the SEN bits. -/
def fp (x y z : Nat) (sen : BitVec 5) : State :=
  (run 5 7 0).mapSeq (fun q => { acSet (acSet (acSet q 0 (BitVec.ofNat 72 x)) 1 (BitVec.ofNat 72 y)) 2 (BitVec.ofNat 72 z) with
    fpcsr := sen.setWidth 22 <<< 7 })

theorem test_hyp_ScalarFloat :
    (issues (fp 0x3F800000 0x3F800000 0 0) [48, 49, 50] && legalRRR isAC isAC isAC isAC (rrr 55 48 49 50)
    && legalRRR isAC isAC isAC unused (rrr 55 48 49 0) && legalRRR isAC isAC unused unused (rrr 55 48 0 0)
    && (fpOp f32 0 0 0x3F800000 0x3F800000 0).flags &&& 0 == 0
    && ((fpOp f32 0 4 0x3F800000 0 0).flags &&& 0b00010) == 0b00010) = true := by decide +kernel
theorem test_float_trap : after (fp 0x3F800000 0 0 0b00010) (.fdiv_32 (rrr 50 48 49 0)) (fun t => (t.seq.pc, t.seq.tw, acGet t.seq 2))
    = some (8 * 7, true, 0) := by decide +kernel
theorem test_hyp_FloatCompares : (legalRRR unused isAC isAC unused (rrr 0 48 49 0) && issues (fp 0x7F800001 0 0 1) [48, 49]
    && isSnan (unpack f32 0x7F800001) && (fp 0x7F800001 0 0 1).seq.fpcsr.getLsbD 7
    && issues (fp 0 0 0 0) [8] && issues (fp 0 0 0 0) [48]
    && [(rri 55 8 0, 0), (rri 55 8 3, 3), (rri 47 48 4, 4), (rri 47 48 7, 7), (rri 55 48 8, 8), (rri 55 48 9, 9)].all (fun e =>
      fld e.1 4 20 == 0 && fld e.1 0 4 == e.2 && (if e.2 ≤ 3 then isDA (fRs1 e.1) else isAC (fRs1 e.1))
        && (if 4 ≤ e.2 && e.2 ≤ 7 then isDA (fRd e.1) else isAC (fRd e.1)))) = true := by decide +kernel
theorem test_hyp_FloatEdges : (isNan (unpack f32 0x7FC00000) && isSnan (unpack f64 0x7FF0000000000001) && isZero (unpack f32 0x80000000)
    && isInf (unpack f64 0xFFF0000000000000) && negOfFv (unpack f32 0xBF800000) && !isNan (unpack f32 0xBF800000)
    && !isZero (unpack f32 1) && !isInf (unpack f32 0x7F7FFFFF) && unpack f32 1 == .fin false 1 (-149)
    && (roundPack f32 1 true 3 0 false).flags.getLsbD 2 == false && (roundPack f64 1 false 1 (-2000) false).flags.getLsbD 2 == false) = true := by
  decide +kernel

/-! ### Control flow, windows, traps and interrupts -/

theorem test_branch_conditions : [(0, 0x40), (1, 1), (2, 0x40)].all (fun e =>
    after (run 0 0 0) (.b (BitVec.ofNat 40 (e.1 * 2 ^ 35 + 0x40))) (fun t => t.seq.pc) == some (BitVec.ofNat 18 e.2)) = true := by
  decide +kernel
theorem test_hyp_Branches : (issues (run 0 0 0) [] && issues (run 0 0 0) [15] && issues (run 0 0 0) [31]
    && fld (BitVec.ofNat 40 (17 * 2 ^ 35 + 0x3FFFF)) 18 17 == 0 && fCond (BitVec.ofNat 40 (17 * 2 ^ 35)) == 17
    && fld (0x3FFFF#40) 18 22 == 0 && legalRRR unused isDA unused unused (rrr 0 47 0 0)) = true := by decide +kernel
theorem test_save_moves_window : after (runWith (fun q => daSet q 24 3)) (.save 0) (fun t => (daGet t.seq 8, daGet t.seq 24, t.seq.res))
    = some (3, 0, 2) := by decide +kernel

/-- `n` frames resident, frame registers dirty, waiting for the spiller or for none. -/
def frames (n : Nat) (w : Wait) : State :=
  runWith (fun q => { q with dsecBase := 0x3C000, res := n, top := 10, frameWorlds := List.replicate n true, wait := w })

/-- A line pending that may be taken. -/
def interrupted (s : State) : State := s.mapSeq (fun q => { q with ie := true, ipend := 0x8000, imask := 0x8000, isec := 0xFFFF })

theorem test_hyp_SaveAndRestore : (issues (frames 10 .none) [] && issues (frames 2 .none) [] && issues (frames 11 .none) []
    && issues (runWith (fun q => { q with tw := true })) [] && (frames 11 .none).seq.job.isNone && !(frames 11 .none).seq.tw
    && legalRRR unused unused unused unused 0) = true := by decide +kernel
theorem test_hyp_StalledWindows :
    ((frames 11 .save).running && (frames 11 .save).interruptDue.isNone && decide ((frames 11 .save).untilMovedOrDue.seq.res ≤ 10)
    && (frames 11 .save).untilMovedOrDue.interruptDue.isNone && (frames 10 .save).running && (frames 2 .restore).running
    && (frames 2 .restore).interruptDue.isNone
    && (let s := (frames 1 .restore).mapSeq (fun q => { q with spillPtr := 0x3C002 })
        s.running && decide (2 ≤ s.untilMovedOrDue.seq.res) && s.untilMovedOrDue.interruptDue.isNone)
    && [(11, Wait.save), (1, Wait.restore)].all (fun e => (interrupted (frames e.1 e.2)).untilMovedOrDue.interruptDue.isSome)
    && [false, true].all (fun b => let s := (frames 11 .none).mapSeq (fun q => { q with job := some ⟨b, q.recLen⟩ })
        s.running && s.seq.job == some ⟨b, s.seq.recLen⟩)
    && (let s := (frames 2 .none).mapSeq (fun q => { q with job := some ⟨true, 1⟩, spillPtr := 0x3C002 })
        decide (s.seq.dataAt ≤ s.cycle) && s.seq.ptrWrites.isEmpty && decide (s.seq.spillBase.toNat < s.seq.spillPtr.toNat)
          && decide (fld s.seq.wctl 0 4 + s.seq.res ≤ 10))) = true := by decide +kernel
theorem test_hyp_FillUndoesSpill : ((frames 2 .none).seq.spillPtr.toNat + (frames 2 .none).seq.recLen ≤ 2 ^ 18)
    ∧ ((frames 11 .none).seq.spillPtr.toNat + (frames 11 .none).seq.recLen ≤ 2 ^ 18) := by decide +kernel
theorem test_hyp_Repeats : (issues (run 3 0 0) [8] && legalRRR unused isD unused unused (rrr 0 31 0 0)
    && legalRRI unused unused (rri 0 0 0xFFFFFF)) = true := by decide +kernel
theorem test_rep_zero_skips : after (run 0 0 0) (.rep 0) (fun t => t.seq.pc) = some 2 := by decide +kernel
theorem test_hyp_LocksAndWaits : (issues (runWith (fun q => { q with locked := true })) [] && issues (run 0 0 0) []
    && (runWith (fun q => { q with wait := .beat })).running && (runWith (fun q => { q with wait := .beat })).interruptDue.isNone
    && (run 0 0 0).seq.bphase == 0
    && !(run 0 0 0).seq.frkst.getLsbD 20) = true := by decide +kernel

/-- Non-secure, with gate 15 valid. -/
def gated : State := runWith (fun q => { q with world := false, gates := sput 0 [] 15 0x800100 })

theorem test_hyp_Gates : (issues gated [] && legalRRI unused unused 0xF && (sget 0 gated.seq.gates 15).getLsbD 23
    && (let s := runWith (fun q => { q with gate := some ⟨5, false, false, q.top⟩ })
        issues s [] && s.seq.world && (s.ticks 3).seq.gate == some ⟨5, false, false, s.seq.top⟩)
    && (let s := runWith (fun q => { q with gate := some ⟨5, false, false, q.top + 1⟩ })
        issues s [])) = true := by decide +kernel
theorem test_scall_enters : after gated (.scall 0xF) (fun t => (t.seq.pc, t.seq.world, t.seq.freeAt)) = some (0x100, true, 3) := by
  decide +kernel
theorem test_hyp_Traps : ((run 0 0 0).seq.tw = false ∧ (run 0 0 0).seq.depth < 15 ∧ (run 0 0 0).seq.ilvl < 32)
    ∧ (runWith (fun q => { q with depth := 14 })).seq.depth < 15 ∧ (runWith (fun q => { q with depth := 15 })).seq.depth = 15 := by
  decide +kernel
theorem test_hyp_Illegal : ((run 0 0 0).issuing && !legalRRR isDA isDA isDA unused (rrr 48 8 9 0) && !legalRRR isDA isDA isDA unused 1
    && issues (run 0 0 0x41800) [8, 32] && (run 0 0 0x41800).seq.usedAddress (fm 8 0 0 0) == 0x41800
    && (run 0 0 0xFFFFF).seq.usedAddress (fm 8 0 0 0) == 0xFFFFF && (run 0 0 0x7FFFFF).seq.usedAddress (fm 8 0 0 0) == 0x7FFFFF
    && (let s := (run 0 0 0x3FFFF).mapSeq (fun q => { q with world := false, dsecBase := 0x3FFFF })
        issues s [8, 32] && decide (s.seq.dsecBase.toNat ≤ s.seq.usedAddress (fm 8 0 0 0)))
    && issues (runWith (fun q => { q with priv := false, tw := true })) [] && issues (run 0 0 1897) (macroSrcs 0x80 0x0000070000)) = true := by
  decide +kernel
/-- A word whose fields no row takes: every class, mode, condition, span and immediate in it is outside. -/
theorem test_hyp_IllegalForms : (let w : BitVec 40 := BitVec.allOnes 40
    issues (run 5 7 0) [fld w 28 6, fld w 22 6, fld w 16 6, fld w 34 6] && fld w 34 6 == 63 && fld w 27 3 == 7 && fld w 35 5 == 31
      && fld w 18 22 != 0 && fld w 4 20 != 0 && issues (run 5 7 0) [15] && issues (run 5 7 0) [31] && issues (run 5 7 0) []
      && fld (0x2A0000000000#48) 40 8 == 0x2A) = true := by decide +kernel
theorem test_hyp_ReturnFromTrap :
    (let s := runWith (fun q => { q with tw := true, depth := 1 })
     issues s [] && s.seq.priv && !s.handlerBusy && (s.ticks 3).arr.susp.isNone) = true := by decide +kernel
theorem test_hyp_WindowLost : (State.reset.setRfld bNOC 0 0 1 0).routed = false
    ∧ ((State.reset.setRfld bNOC 0 0 1 0).windowLost (State.reset.seq.windowTransfer 0x100000 false)).map (·.1) = some .routeFault
    ∧ ((run 5 7 0).windowLost ((run 5 7 0).seq.windowTransfer 0x100000 true)).isNone = true := by decide +kernel
theorem test_hyp_FillKept : (let s := (frames 11 .none).mapSeq (fun q => { q with job := some ⟨true, 1⟩ })
    decide (s.seq.dataAt ≤ s.cycle) && s.seq.ptrWrites.isEmpty && decide (10 < fld s.seq.wctl 0 4 + s.seq.res)) = true := by decide +kernel
theorem test_hyp_Halt : (run 0 0 0).untilFree.running = true := by decide +kernel

/-- A macro in issue at level 0. -/
def aMacro (op : Nat) (w : BitVec 40) : Run := ((run 0 0 0).seq.macro op w).start

theorem test_hyp_ReturnToMacro :
    (let s := (runWith (fun q => daSet { q with tw := true, depth := 1 } 10 0x100)).mapArr (fun a =>
       { a with susp := some (aMacro 0x80 0x0000070000), suspDepth := 1 })
     issues s [] && !s.handlerBusy && (s.ticks 3).arr.susp.isSome && (dGet (s.ticks 3).seq 10).getLsbD 8
       && decide ((s.ticks 3).seq.depth = (s.ticks 3).arr.suspDepth)) = true := by decide +kernel
theorem test_interrupt_takes_lowest : after (runWith (fun q => { q with ie := true, ipend := 0x8012, imask := 0x8010, isec := 0xFFFF }))
    .interruptEntry (fun t => (t.seq.pc, t.seq.ilvl)) = some (8 * 20, 4) := by decide +kernel
theorem test_hyp_Interrupt : (let s := runWith (fun q => { q with ie := true, ipend := 0x8000, imask := 0x8000, isec := 0xFFFF })
    s.running && s.seq.wait == .none && s.arr.run.isNone && s.arr.inject.isEmpty && s.arr.check.isNone
      && decide (s.seq.freeAt ≤ s.cycle) && decide (15 < s.seq.ilvl)
      && (s.toIssue []).interruptDue == some (15, s.cycle)
      && (s.mapArr (fun a => { a with run := some (aMacro 0x80 0x0000070000), lastSafe := true })).interruptDue == some (15, s.cycle - 1))
    = true := by decide +kernel

/-! ### The array -/

/-- Operand bits of an array macro with its destination in A2, sources in A0, A1 and A3, and widths of 8. -/
def macroBits (op : Nat) : BitVec 40 :=
  let bit (b : Bool) (n : Nat) : Nat := if b then n else 0
  let u := af1Uses op
  BitVec.ofNat 40 (
    if afOf op = 2 then 2 * 2 ^ 36 + 15 * 2 ^ 28 + 7 * 2 ^ 16 + 1 * 2 ^ 12 + 7 * 2 ^ 4
    else if afOf op = 3 then 2 * 2 ^ 36 + 7 * 2 ^ 24
    else bit u.1 (2 * 2 ^ 36) + bit u.2.2.1 (1 * 2 ^ 28) + bit u.2.2.2.1 (3 * 2 ^ 24) + bit u.2.2.2.2 (7 * 2 ^ 16)
      + (if op = 0xC6 then 2 ^ 8 else 0))

/-- A0 to A3 at 0, 2,048, 256 and 512, and one offset in stencil 0. -/
def placed : State := (run 0 0 0).mapSeq (fun q =>
  { daSet (daSet (daSet q 33 2048) 34 256) 35 512 with stcnt := sput 0 [] 0 1 })

theorem test_hyp_MacrosDispatch : ((List.range 21).map (0x80 + ·) ++ (List.range 7).map (0xA0 + ·) ++ (List.range 11).map (0xA8 + ·)
    ++ (List.range 15).map (0xB8 + ·)).all (fun op =>
      issues placed (macroSrcs op (macroBits op)) && !macroIllegal op (macroBits op) && !macroMisplaced placed.seq op (macroBits op)) = true := by
  decide +kernel
theorem test_hyp_MacrosDispatchFree : (placed.toIssue []).tick.untilDispatch.arr.busy = false
    ∧ (placed.toIssue []).tick.untilDispatch.running = true := by decide +kernel
/-- An unused bit; else a base past the user area, two sources in one bank, and a stencil with no offset. -/
theorem test_hyp_MisplacedMacros :
    ((List.range 256).all (fun op => !(opcodeListed op && decide (0x80 ≤ op)) || (
        issues placed (macroSrcs op (BitVec.allOnes 40))
          && macroIllegal op (BitVec.allOnes 40)
          && issues (run 0 0 1900) (macroSrcs op (macroBits op))))
    && (aGet (run 0 0 1900).seq (fld (macroBits 0x80) 32 4)).toNat == 1900
    && (aGet (run 0 0 0).seq 1).toNat == 0 && (aGet (run 0 0 0).seq 0).toNat == 0 && (sget 0 (run 0 0 0).seq.stcnt 0).toNat == 0) = true := by
  decide +kernel
theorem test_adivs_truncates : (arith ((run 0 0 0).seq.macro 0x89 (macroBits 0x89)) 0xF9 2 0) = (0xFFFD, 0) := by decide +kernel
theorem test_asal_overflow : (arith ((run 0 0 0).seq.macro 0x8E (macroBits 0x8E)) 0x40 1 0) = (0x80, 0b00100) := by decide +kernel
theorem test_hyp_MacroResult : (isArith 0x80 && !((placed.seq.macro 0x80 (macroBits 0x80)).bad) && placed.cv.flips.isEmpty
    && (macroFields 0x80 (macroBits 0x80)).2 == some 8 && (placed.seq.macro 0x80 (macroBits 0x80)).bd == 256
    && fld (macroBits 0x89) 16 8 + 1 == 8 && fld (macroBits 0x89) 4 8 + 1 == 8) = true := by decide +kernel
theorem test_hyp_NanoWord : State.reset.cv.flips = [] ∧ State.reset.cv.failed = [] ∧ 1114111 < numPE ∧ fld (4#128 <<< 47) 47 3 = 4
    ∧ fld (2#128 <<< 45) 45 2 = 2 ∧ fld (4#128 <<< 58) 58 3 = 4 := by decide +kernel

/-- In RUN with a word in the pipeline, and with reductions under way. -/
def piped (issued : Nat) : State :=
  { (run 0 0 0).mapArr (fun a => { a with pipe := [⟨0, issued, .plain, false⟩] }) with cycle := 12 }
def landing (c : Nat) : State :=
  { (run 0 0 0).mapRed (fun r => { r with tally := [(0, true, 5)], region := [(0, 1)], deliver := [(0, 3, true)] }) with cycle := c }

theorem test_hyp_ArrayCycles : (piped 0).arr.pipe = [⟨0, 0, .plain, false⟩] ∧ 0 + 12 ≤ (piped 0).cycle ∧ (piped 1).cycle < 1 + 12
    ∧ (landing 64).red.tally = [(0, true, 5)] ∧ 0 + 64 ≤ (landing 64).cycle ∧ 0 + 32 ≤ (landing 32).cycle
    ∧ 0 + 48 ≤ (landing 48).cycle ∧ Scan.due ⟨0, 1, [(0, true)], true⟩ 48 = true := by decide +kernel
theorem test_hyp_ValidWord : (List.range 128).any (fun i => nVALID (BitVec.ofNat 128 (2 ^ i))) = true := by decide +kernel
theorem test_hyp_Check :
    (let s := { (runWith (fun q => { q with wait := .check })).mapArr (fun a => { a with check := some ⟨1, [0], true⟩ }) with cycle := 48 }
     s.running && s.checkLanded && !s.seq.tw && decide (s.seq.depth < 15)) = true := by decide +kernel

/-! ### Outputs, beats, lanes and ingest -/

theorem test_hyp_TriggerWords : ((up .armed).sys.mode = .armed ∧ (up .run).sys.mode = .run) ∧ (up .run).out.closed = false
    ∧ (up .run).seq.bphase + 1 ≠ (up .run).rfld bOUT 0 16 8
    ∧ (up .run).seq.bphase + 1 = ((up .run).setRfld bOUT 0 16 8 1).rfld bOUT 0 16 8
    ∧ ((up .run).mapOut (fun o => { o with closed := true })).out.closed = true := by decide +kernel

/-- Output lane 15 enabled with its PLL locked. -/
def lit (m : Mode) : State := ((up m).setRfld bOUT 0x01F 23 1 1).setRfld bOUT 0x00B 0 1 1

theorem test_hyp_OutputLanes : ((lit .run).reg bOUT 0x01F).getLsbD 23 = true ∧ (lit .run).domainUp 311 = true
    ∧ ((lit .run).reg bOUT 0x00B).getLsbD 0 = true ∧ (lit .run).setWhole 15 = true ∧ (lit .run).stripe 15 = 0 ∧ (lit .run).outCode 15 = 1
    ∧ ((lit .run).setRfld bOUT 0x01F 19 2 1).setWhole 15 = false ∧ ((lit .run).setRfld bOUT 0x01F 21 2 0).outCode 15 = 0
    ∧ ((up .run).reg bOUT 0x01F).getLsbD 23 = false := by decide +kernel
theorem test_output_idles : after (lit .configure) (.outputFrame 15 (some 1)) (fun t => (sget [] t.out.frames 15).length) = some 1
    ∧ after (lit .standby) (.outputFrame 15 none) (fun t => (sget [] t.out.frames 15).length) = some 0 := by decide +kernel

/-- Accept pin 3 in a mode with WIDTH 5, group 0. -/
def pinned (mode : Nat) (pulse : Sparse Nat) : State :=
  (((up .run).setRfld bOUT 7 22 2 mode).setRfld bOUT 7 0 8 5).mapOut (fun o => { o with pulse := pulse })

theorem test_hyp_AcceptPins : (pinned 2 []).rfld bOUT 7 22 2 = 2 ∧ (pinned 2 []).rfld bOUT 7 20 2 = 0 ∧ (pinned 2 []).out.fault = false
    ∧ (pinned 2 []).seq.halted = false ∧ swf 0 (pinned 2 [(3, 1)]).out.pulse = true ∧ sget 0 (pinned 2 [(3, 1)]).out.pulse 3 = 1
    ∧ ((pinned 2 []).mapOut (fun o => { o with fault := true })).out.fault = true := by decide +kernel
theorem test_pulse_lasts_its_width :
    (let s := (pinned 2 []).pinsTake 0 true
     s.accPin 3 && s.pulseTick.pulseTick.pulseTick.pulseTick.accPin 3 && !s.pulseTick.pulseTick.pulseTick.pulseTick.pulseTick.accPin 3)
    = true := by decide +kernel

/-- With the beat counter begun at a count. -/
def beating (m : Mode) (n : Nat) : State :=
  { up m with tim := { State.reset.tim with beat := BitVec.ofNat 40 n, begun := true } }

theorem test_beat_carries : after (beating .run (2 ^ 40 - 1)) .beat (fun t => (t.tim.beat, t.tim.epoch, t.out.alive)) = some (0, 1, true) := by
  decide +kernel
theorem test_hyp_Beats : (beating .run 7).tim.begun = true ∧ State.reset.tim.begun = false ∧ State.reset.tim.present = true
    ∧ ({ up .run with tim := { State.reset.tim with present := false } } : State).tim.present = false
    ∧ (let s := (beating .run 7).mapSys (fun y => { y with restart := true })
       s.restartDue = true ∧ (beating .run 7).restartDue = false)
    ∧ (let s := (beating .run 7).mapSeq (fun q => { q with wait := .beat, frkst := 0x100000 })
       s.running = true ∧ s.seq.wait = .beat ∧ s.deadHold = true ∧ (beating .run 7).deadHold = false) := by decide +kernel
theorem test_hyp_Tstream :
    (((((up .armed).mapSys (fun y => { y with accepted := some 5 })).beatBegins id).setRfld bTIM 1 16 4 1).setRfld bTIM 1 8 8 0
        |>.raiseLine 1).sys.accepted = some 5
    ∧ ((((up .armed).beatBegins id).setRfld bTIM 1 16 4 1).setRfld bTIM 1 8 8 0 |>.raiseLine 1).sys.mode = .armed ∧ ((up .run).beatBegins id).sys.mode ≠ .armed ∧ (up .armed).tim.present = true ∧ (0 : BitVec 8).toNat = (up .armed).rfld bTIM 0 0 8
    ∧ ¬ ((1 : BitVec 8) = 0xFF ∨ (1 : BitVec 8).toNat = (up .armed).rfld bTIM 0 0 8) ∧ (0 : BitVec 28).getLsbD 27 = false := by decide +kernel

/-- Lane 143 in a state, with its link record. -/
def laned (st : Nat) (x : Lane) : State := (((up .run).setRfld (lqBlk 143) (8 + 3) 20 2 st).setRfld (lqBlk 143) (8 + 3) 18 2 2).setLane 143 x

theorem test_hyp_Lanes : (laned 0 Lane.reset).laneState 143 = 0 ∧ (laned 1 Lane.reset).laneState 143 = 1 ∧ (laned 2 Lane.reset).laneState 143 = 2
    ∧ (laned 1 { Lane.reset with good := 64 }).lane 143 = { Lane.reset with good := 64 } ∧ ((laned 1 Lane.reset).laneReg 0 143).getLsbD 17 = false
    ∧ (laned 3 Lane.reset).laneState 143 = 3 ∧ (laned 3 Lane.reset).laneVer 143 ≠ 0 ∧ (laned 3 Lane.reset).laneCode 143 = 1
    ∧ (laned 2 { Lane.reset with hello := some 5 }).lane 143 = { Lane.reset with hello := some 5 }
    ∧ (laned 2 { Lane.reset with settled := some 2, acks := 8 }).lane 143 = { Lane.reset with settled := some 2, acks := 8 }
    ∧ (laned 2 { Lane.reset with symbols := 128, acks := 7 }).lane 143 = { Lane.reset with symbols := 128, acks := 7 }
    ∧ (laned 3 { Lane.reset with symbols := 1024 }).lane 143 = { Lane.reset with symbols := 1024 }
    ∧ Lane.reset.symbols = 0 ∧ Lane.reset.out = [] ∧ Lane.reset.settled = none ∧ (laned 1 { Lane.reset with good := 63 }).laneCode 143 = 1
    ∧ badIn 64 (false :: List.replicate 15 true) < 16 ∧ (laned 3 Lane.reset).domain 307 = true ∧ fld (0x04000000#32) 24 8 = 4
    ∧ fld (0x02000000#32) 24 8 = 2 ∧ 16 ≤ badIn 64 (true :: List.replicate 15 true) := by decide +kernel
/-- An ordered set as lane 143 in HELLO or UP receives it, and symbols that spell none. -/
theorem test_hyp_OrderedSets : ([0x01000000#32, 0x02000000, 0x03000000, 0x05000000].all (fun c =>
      let r := Lane.reset.rx.takeSet 1 (Lane.reset.tx.send (orderedPiece 1 c)).1
      let t := ((laned 3 Lane.reset).setLane 143 { Lane.reset with rx := r.2.2 }).symbolsSeen 143 r.2.1 [] 0
      r.1 == some c && t.laneState 143 == 3)
    && (Lane.reset.rx.takeSet 1 0).1 == none
    && (((laned 3 { Lane.reset with recent := List.replicate 15 true }).symbolsSeen 143 [true] [] 0).laneState 143 < 2 : Bool)) = true := by
  decide +kernel
/-- K28.5 in negative running disparity is 0011111010, D0.0 is 1001110100 (IEEE 802.3 Clause 36), first bit in bit 0. -/
theorem test_code_groups : (group10 true 0xBC false).1 = 0b0101111100 ∧ (group10 false 0x00 false).1 = 0b0010111001 := by decide +kernel

/-- Region 0 ACTIVE, postcode 0 placed at PE 0 of tile 0, `n` payloads in its queue. -/
def ingest (n : Nat) (waiting : List (Nat × BitVec 256)) : State :=
  { (up .run).setRstate 0 3 with
    dn := { dir := sput 0 [] 0 1, tables := sput [] [] 0 [⟨0, 0, 0, 16⟩], waiting := waiting,
            queues := sput [] [] 0 (List.replicate n ⟨0, 0, 16, 5, 0, 0, 0, (0, 0)⟩), wrote := [] } }
/-- A record of 16-bit payloads for postcode 0, its reserved bits `z`. -/
def record (z : Nat) : BitVec 256 := BitVec.ofNat 256 (15 * 2 ^ 40 + 2 ^ 44 + z * 2 ^ 56)

theorem test_hyp_Ingest : (let s := ingest 1023 []
    s.rstate 0 == 3 && s.dn.waiting.isEmpty && fld (record 1) 56 8 == 1 && fld (record 0) 56 8 == 0 && s.roomFor (s.slots 0 (record 0))
      && !(s.slots 0 (record 0)).isEmpty && !(ingest 1024 []).roomFor ((ingest 1024 []).slots 0 (record 0))
      && (ingest 0 [(0, record 0)]).dn.waiting == [(0, record 0)] && (up .run).rstate 0 != 3 && (ingest 0 []).roomFor ((ingest 0 []).slots 0 (record 0))) = true := by
  decide +kernel
theorem test_hyp_IngestPorts : (ingest 0 []).delivers 0 = true ∧ (up .run).rstate 0 ≠ 3
    ∧ ({ ingest 0 [] with tw := { (ingest 0 []).tw with golden := 1 } } : State).tw.golden.getLsbD 0 = true
    ∧ (⟨0, 0, 16, 5, 0, 3, 0, (0, 0)⟩ : Payload).port < (⟨0, 0, 16, 5, 0, 5, 0, (0, 0)⟩ : Payload).port
    ∧ (ingest 2 []).leaving 128 ((ingest 2 []).tileQueue 0) ≠ [] := by decide +kernel
theorem test_ingest_queues_payload : after (ingest 0 []) (.ingestRecord 0 (record 0)) (fun t => (t.tileQueue 0).map (fun y => (y.pe, y.width)))
    = some [(0, 16)] := by decide +kernel
theorem test_hyp_PayloadWrite :
    (let s (b late : Nat) : State := ({ ingest 1 [] with tim := { State.reset.tim with beat := BitVec.ofNat 40 b } }).setRfld bDN 0 0 16 late
     let age (s : State) : Nat := (s.tim.beat.extractLsb' 0 16 - (0 : BitVec 16)).toNat
     (s 0 0).tileQueue 0 == [⟨0, 0, 16, 5, 0, 0, 0, (0, 0)⟩] && (s 0 0).wroteNow 0 == 0
       && ({ s 0 0 with dn := { (s 0 0).dn with wrote := [(0, (113, (s 0 0).arrayTime))] } } : State).wroteNow 0 == 113 && age (s 32768 0) == 32768 && age (s 32767 0) == 32767 && (s 5 4).rfld bDN 0 0 16 == 4
       && age (s 5 4) == 5 && age (s 4 4) == 4 && physTile (s 4 4).cv.failed 0 == some 0 && (s 4 4).cv.power.getLsbD 0) = true := by decide +kernel
theorem test_hyp_CapturePacket :
    (let s := ((up .run).setReg bMBG 0x01F 0x808000).mapMem (fun m => { m with egress := sput [] [] 15 [(3, 5)] })
     s.mailbagOf 15 == some 15 && !(sget [] s.mem.egress 15).isEmpty && s.mayInject 15 2 2 && !s.lost (stackOf (s.ringOf 15).1)
       && s.routed && (s.captureLost (s.captureTransfer 15 15 1)).isNone && !s.wayHeld 15 (s.captureTransfer 15 15 1).dst
       && ((s.setRfld bNOC (0x100 + (s.captureTransfer 15 15 1).dst) 22 1 0).captureLost (s.captureTransfer 15 15 1)).isSome
       && s.packetRoom 15 == 32 && (s.setReg bMBG 0x02F 31).packetRoom 15 == 1 && (s.setReg bMBG 0x02F 32).packetRoom 15 == 32) = true := by
  decide +kernel

/-! ### Registers, owners, worlds, queues and the network -/

/-- A module that a host can use: version 3 agreed at both ports, sessions 1 (secure) and 2 of port A open, lifecycle PROVISIONED. -/
def host (m : Mode) : State :=
  let s := ((up m).setRfld (mbx .a) 0 0 4 3).setRfld (mbx .b) 0 0 4 3
  { s.mapPort .a (fun h => { h with sessions := [(1, true), (2, false)] }) with otp := { State.reset.otp with log := [1] } }

def secureW : Who := ⟨.a, 1⟩
def plainW : Who := ⟨.a, 2⟩
/-- The answer that a register command leaves. -/
def answers (s : State) (c : Instr) : Option Status := after s c (fun t => t.answer)

/-- Physical tile 0 secure, or under clearing. -/
def tileSecure (m : Mode) : State := (host m).setRfld bSEC 0x010 0 1 1
def clearing (m : Mode) (c : Nat) : State := (host m).mapSys (fun y => { y with clears := [(c, none)] })

theorem test_register_answers :
    answers (host .run) (.registerWrite plainW 0x010 0xFFF ⟨0, 0, 0xF⟩) = some .badParameter
    ∧ answers (tileSecure .run) (.registerWrite plainW 0x010 0 ⟨5, 0, 0xF⟩) = some .denied
    ∧ answers (tileSecure .run) (.registerWrite secureW 0x010 0 ⟨5, 0, 0xF⟩) = some .ok
    ∧ answers (clearing .run 0) (.registerWrite secureW 0x010 0 ⟨5, 0, 0xF⟩) = some .busy
    ∧ answers (host .run) (.registerWrite secureW 0x020 0 ⟨5, 0, 0xF⟩) = some .denied
    ∧ after ((host .run).setReg 0x010 0 9) (.registerWrite secureW 0x010 0 ⟨6, 3, 0xF⟩) (fun t => t.reg 0x010 0) = some 9 := by decide +kernel
theorem test_hyp_RegisterWrites : (blockListed 0x010 && (regSpec 0x010 0xFFF).isNone && (regSpec 0x010 0).isSome && (regSpec 0x020 0).isSome
    && ((regSpec 0x010 0).map (fun r => (tileSecure .run).holderSecure r.holder)) == some true
    && ((regSpec 0x010 0).map (fun r => (clearing .run 0).holderBusy r.holder)) == some true
    && ((regSpec 0x010 0).map (fun r => (host .run).holderSecure r.holder || (host .run).holderBusy r.holder)) == some false
    && (host .run).sessionSecure (.ring .a) 1 && !(host .run).sessionSecure (.ring .a) 2
    && (host .run).awake .a && (host .run).sys.transition.isNone && (regSpec (mbx .a) 0x040).isSome && (regSpec (dbl .a) 0x024).isSome) = true := by
  decide +kernel
theorem test_lane_register_answers :
    answers (host .run) (.lqPllWrite plainW 35 0) = some .wrongMode ∧ answers (host .configure) (.lqPllWrite plainW 35 0) = some .badParameter
    ∧ answers (host .configure) (.lqPllWrite plainW 35 0x002100) = some .ok
    ∧ answers (host .maintenance) (.lqCfgWrite plainW 143 0x600000) = some .badParameter
    ∧ answers (host .maintenance) (.lqCfgWrite plainW 143 0x0C0000) = some .badParameter
    ∧ answers (host .configure) (.lqCfgWrite plainW 143 0x240000) = some .ok := by decide +kernel
theorem test_hyp_LaneRegisters : (143 = 4 * (35 : Fin 36).val + (3 : Fin 4).val) ∧ (host .configure).holderSecure (.quad 35) = false
    ∧ (host .configure).sys.mode = .configure ∧ (host .run).sys.mode ≠ .configure ∧ (host .run).sys.mode ≠ .maintenance := by decide +kernel

/-- Region 0 with a queue block of 8-bit entries, queue 0 as configured, `n` entries in it. -/
def queued (m : Mode) (cfg : Word) (n : Nat) : State :=
  let s := ((host m).setRstate 0 3).setReg (bTWQ + 0) 0 cfg
  { s with tw := { s.tw with queues := sput [] [] 0 (List.replicate n 5) } }

theorem test_queue_register_answers :
    answers (queued .run 0 0) (.twqCfgWrite secureW 0 false 0) = some .wrongMode
    ∧ answers (queued .configure 0x800800 0) (.twqCfgWrite secureW 0 false 0) = some .busy
    ∧ answers (queued .configure 0 0) (.twqCfgWrite secureW 0 false 0x7FFFFF) = some .ok
    ∧ answers (queued .configure 0 0) (.twqCfgWrite secureW 0 false 0xE00800) = some .badParameter
    ∧ answers (host .run) (.nocNictlWrite secureW 102 0) = some .denied ∧ answers (host .run) (.nocNictlWrite secureW 101 0) = some .ok
    ∧ answers (host .run) (.nocRateWrite secureW 101 3 16) = some .badParameter
    ∧ answers (host .run) (.nocRateWrite secureW 101 3 17) = some .ok ∧ answers (host .run) (.nocRateWrite secureW 101 0 17) = some .denied := by
  decide +kernel
theorem test_hyp_QueueRegisters : ((queued .run 0 0).critical 0 && !(queued .run 0 0).clearing (clearRegion 0)
    && (queued .configure 0x800800 0).queueCfg 0 0 == 0x800800
    && (let s := (host .configure).setRfld (bTWQ + 15) 0x107F 0 3 4
        s.queueFits 15 1016 0x900000 && s.queueFits 15 1023 0x900000 && !s.queueFits 15 1023 0x900001
          && !s.queueFits 15 1016 0x800400)) = true := by decide +kernel
theorem test_push_drops_by_policy :
    after (queued .run 0x800800 2) (.queuePush 0 9 false) (fun t => ((sget [] t.tw.queues 0).length, (t.reg bTWQ 3).toNat)) = some (2, 1)
    ∧ after (queued .run 0xC00800 2) (.queuePush 0 9 false) (fun t => ((sget [] t.tw.queues 0).length, (t.reg bTWQ 3).toNat)) = some (2, 1)
    ∧ after (queued .run 0xC00800 2) (.queuePush 0 9 true) (fun t => ((sget [] t.tw.queues 0).length, (t.reg bTWQ 3).toNat)) = some (2, 0) := by
  decide +kernel
theorem test_hyp_Queues : (queued .run 0x800800 0).runs 0 = true ∧ ((host .run).reg bCLK 0).extractLsb' 12 8 = 0xFF#8
    ∧ (host .run).runs 0 = false ∧ (∀ k < 16, (host .run).runs k = false)
    ∧ (queued .run 0x800800 0).rstate 0 = 3 ∧ ((queued .run 0x800800 0).queueCfg 0 0).getLsbD 23 = true
    ∧ queueDepth 0x800800 = 2 ∧ fld (0xC00800#24) 21 2 = 2 ∧ (host .run).rstate 0 ≠ 3
    ∧ (sget [] (queued .run 0x800800 1).tw.queues 0).length < 2 ∧ (∀ k < 16, (host .run).rstate k ≠ 3) := by decide +kernel

theorem test_owner_answers :
    answers (host .run) (.phOwnWrite (.session secureW) 1 3) = some .denied ∧ answers (clearing .run (clearBank 2)) (.phOwnWrite (.session secureW) 2 3) = some .busy
    ∧ answers (host .run) (.phOwnWrite (.session secureW) 2 0x30) = some .badParameter ∧ answers (host .run) (.phOwnWrite (.session secureW) 2 0x08) = some .badParameter
    ∧ answers (host .run) (.phOwnWrite (.session secureW) 63 0x20) = some .ok := by decide +kernel
theorem test_hyp_Owners : ((host .run).wiping 2 = false ∧ (host .run).clearing (clearBank 2) = false)
    ∧ ((host .run).mapMem (fun m => { m with handover := [(63, 0xFF, true)] })).mem.handover.find? (fun e => e.1 == 63) = some (63, 0xFF, true)
    ∧ ((host .run).setRfld bPH 0x13F 22 1 1).wiping 63 = true
    ∧ (let s := (host .run).setRfld bPH 0x13F 0 8 5
       s.owner 63 = (5 : BitVec 8).toNat ∧ ownerListed 5 = true ∧ s.ownerReaches 5 (s.bankWorld 63) = true ∧ s.ownerBusy 63 = false
       ∧ s.owner 63 ≠ ownHost .a ∧ ownerListed 9 = false
       ∧ (s.mapNoc (fun x => { x with arrived := sput [] x.arrived 47 [(⟨headOf 0 1 1 103 47 0 false false 0 0 0 (3 * 2 ^ 20) 31, []⟩, false)]
           })).ownerBusy 63 = true)
    ∧ (let s := ((host .run).setRfld bPH 0x13F 0 8 3).mapSeq (fun q => { daSet q 32 0x100000 with phwin := 63, wait := .window 0x30 (fm 8 0 0 0) })
       s.ownerBusy 63 = true) := by decide +kernel
theorem test_world_answers :
    answers (host .run) (.secWorldWrite secureW 0x010 1) = some .wrongMode ∧ answers (host .standby) (.secWorldWrite plainW 0x010 1) = some .denied
    ∧ answers (host .standby) (.secWorldWrite secureW 0x020 1) = some .badParameter
    ∧ answers (host .standby) (.secWorldWrite secureW 0x031 1) = some .badParameter
    ∧ answers (host .standby) (.secWorldWrite secureW 0x010 1) = some .ok
    ∧ answers (host .maintenance) (.secWorldWrite secureW 0x041 0xE01) = some .ok
    ∧ after ((host .standby).setRfld bSEC 0 23 1 1) (.secWorldWrite secureW 0x010 1) (fun t => (t.answer, t.reg bSEC 0x010)) = some (.ok, 0) := by
  decide +kernel
theorem test_hyp_Worlds : (regSpec bSEC 0x010).isSome = true ∧ isWorldReg 0x010 = true ∧ isWorldReg 0x05F = true ∧ isWorldReg 0 = false
    ∧ (let s := (host .standby).mapSys (fun y => { y with claims := [⟨7, 0, some .a, 2⟩] })
       (s.holder 7 0).isSome = true ∧ s.sys.clears.all (fun e => e.2.isNone) = true) := by decide +kernel

/-- The status of the first reply in port A's ring, `none` where there is none. -/
def replied (s : State) (c : Instr) : Option Nat :=
  match exec c s with
  | .next t => if (t.reg (mbx .a) 0x010).toNat = 0 then none else some (fld (t.cont 0 0x20002) 16 8)
  | _ => none

theorem test_register_commands : replied (host .run) (.regRead .a (req 0x7E 3 2 bTIM [0, 2])) = some 0
    ∧ replied (host .run) (.regWrite .a (req 0x7F 3 2 bTIM [0, 1, 7])) = some 0 ∧ replied (host .run) (.regRead .a (req 0x7E 3 2 0x0FF [0, 1])) = some 0x0A := by
  decide +kernel
theorem test_hyp_RegisterCommands : (let s := host .run
    s.interprets (.ring .a) && (s.takePacket .a (req 0x7E 3 2 bTIM [0, 256])).1
      && s.check (.ring .a) (req 0x7E 3 2 bTIM [0, 256]) (plainDemand 1 (regBlock bTIM)) == (.ok, 0)
      && (s.writeRegs (.ring .a) 1 bTIM 0 [7] []).2.sys.clears.isEmpty
      && (let t := tileSecure .standby
          !(t.writeRegs (.ring .a) 1 bSEC 0x010 [0] []).2.sys.clears.isEmpty)
      && (host .maintenance).awake .a && regBlock 0 == regBlock 0x0FF) = true := by decide +kernel
theorem test_bar0_reads : (up .configure).bar0Word .a 0x2000 = 2 ∧ (up .configure).i2cWord 0x2001 = some 2
    ∧ (up .configure).i2cWord 0x3000 = none ∧ ((up .run).setSem 5 (2, 9)).bar0Word .a 0x4014 = 0x800003
    ∧ (up .run).bar0Word .b 0x8000 = 1 := by decide +kernel
theorem test_hyp_FallbackPorts : (host .run).rstate 15 ≠ 3 ∧ ((host .run).setRstate 15 3).rstate 15 = 3 ∧ (host .run).sys.boot = .done
    ∧ (host .run).interprets .spi = true ∧ (host .run).interprets .uart = true ∧ (host .run).follows .spi (req 0x04 1 0 0 [2]) = false
    ∧ (host .run).follows .uart (req 0x04 1 0 0 [2]) = false
    ∧ (let q := req 0x04 1 0 0 [2]
       q.op == 4 && decide (q.len ≤ q.payload.length) && ([q.w0, q.w1, q.w2, q.w3] ++ q.conts).all (fun c => fld c 24 8 == 0)
         && crc24 q.words == q.w3.setWidth 24) = true
    ∧ ((host .run).setRstate 15 3).tw.fbpins = false
    ∧ (let s := (host .run).mapSys (fun y => { y with boot := .failed })
       s.rstate 15 ≠ 3 ∧ s.interprets .spi = true ∧ s.interprets .uart = true) := by decide +kernel

/-- A load of a one-region image of zeros. -/
def tweedZeros (passed : Bool) (next : Nat) (crc : Nat) : TweedLoad :=
  { image := (List.range 96).map (fun i => if i = 0x0E then 1 else 0) ++ List.replicate 4 0 ++ leBytes 4 crc ++ List.replicate 520 0,
    next := next, passed := passed, reload := false, cause := .ok, barred := none }

set_option maxRecDepth 20000 in
theorem test_hyp_TweedLoads :
    (let good := (crc32 (List.replicate 516 0)).toNat
     let st (l : TweedLoad) : Status := frameCheck l.image l.next true
     frameAddr (tweedZeros false 0 good).image 0 == (0, 0) && st (tweedZeros false 0 good) == .ok
       && frameCheck (tweedZeros false 0 good).image 0 false == .ok && st (tweedZeros false 0 0) == .badFrame
       && tweedFrames (tweedZeros false 0 good).image == 3584 && (host .run).tw.previous.isNone && (host .run).sys.commit.isNone
       && (host .run).sys.mode != .standby
       && (((host .run).mapTw (fun x => { x with load := some (tweedZeros true 3584 good) })).releaseLoad (tweedZeros true 3584 good)).sys.commit.isNone) = true := by
  decide +kernel

/-- A head with a kind, destination, length in bytes and the tree mark. -/
def head (kind dst bytes : Nat) (tree : Bool) : BitVec 256 := headOf 0 0 1 0 dst kind false tree 0 0 0 0 (bytes - 1)
def tree (m : Mode) : State := (host m).setRfld bNOC 0 0 1 1

theorem test_hyp_PacketInject :
    (let k : Packet := ⟨head 0 20 512 true, []⟩
     let w : Packet := ⟨head 1 20 512 true, List.replicate 512 0⟩
     (tree .run).nocUp && (tree .run).niUp 0 && packetOk k && packetOk w && (tree .run).treeMode && answered (hKind k.head) && !answered (hKind w.head)
       && (let h := (tree .run).builtHead 0 0 k; (tree .run).mayInject 0 (hVc h) (hLen h)) && (tree .run).outst 0 == 0
       && ((tree .run).setOutst 0 31).outst 0 == 31
       && (let s := (tree .run).mapSys (fun y => { y with boot := .failed })
           let u := s.setRfld bNOC 0 0 1 0
           !u.treeMode && u.nocUp && !(u.routeEntry 0 0).2.getLsbD 23)
       && (let s := (host .run).setReg bNOC (0x400 + 4 * 110 + 3) 0x010020; s.rfld bNOC (0x400 + 4 * 110 + 3) 16 8 != 0)) = true := by
  decide +kernel

/-- Packets of a class wait at NI 0; its INJEN bit holds them where `on` is 0. -/
def waitingAt (on : Nat) : State :=
  ((tree .run).setRfld bNOC 0x100 23 1 on).mapNoc (fun x => { x with tokens := sput 0 [] 0 1, queued := sput [] [] 0 [(0, ⟨head 0 20 512 true, []⟩)] })

theorem test_hyp_WaitingPackets :
    (let k : Packet := ⟨head 0 20 512 true, []⟩
     let m : Packet := ⟨head 4 106 512 true, []⟩
     let h := (tree .run).builtHead 0 0 k
     hVc h == 0 && !(tree .run).turning && (sget [] (tree .run).noc.queued 0).isEmpty && (waitingAt 1).mayGo 0 ((waitingAt 1).builtHead 0 0 k)
       && !(waitingAt 0).mayGo 0 ((waitingAt 0).builtHead 0 0 k) && !(waitingAt 0).mayInject 0 0 (hLen h)
       && sget [] (waitingAt 1).noc.queued 0 == [(0, k)] && hKind m.head == 4
       && hVc ((tree .run).builtHead 0 0 m) == 0
       && (let s := (waitingAt 1).setReg bNOC (0x400 + 4 * 0 + 0) 0x010020; s.rfld bNOC 0x400 16 8 != 0 && s.mayGo 0 (s.builtHead 0 0 k)
         && !((waitingAt 0).setReg bNOC 0x400 0x010020).mayGo 0 (s.builtHead 0 0 k))) = true := by
  decide +kernel
/-- A packet waiting at router 0. -/
def flying (h : BitVec 256) (hops : Nat) : State :=
  (tree .run).mapNoc (fun x => { x with flights := [⟨⟨h, []⟩, 0, hops, none, none, false⟩] })

theorem test_hyp_RouterHop :
    (let hop (c : Nat) : BitVec 256 := headOf c 0 1 0 20 0 false false 0 0 0 0 0
     let fl (c : Nat) : Flight := ⟨⟨hop c, []⟩, 0, 0, none, none, false⟩
     (flying (hop 0) 0).nextFlight 0 == some (fl 0) && (flying (hop 0) 0).noc.quiesced.isEmpty
       && ((flying (hop 0) 0).nextFlight 1).isNone
       && (List.range 4).any (fun c => decide (nextPort (fl c) 0 < 4) && (flying (hop c) 0).portOk 0 (nextPort (fl c) 0))
       && decide (nextPort (fl 4) 0 = 4) && (flying (hop 4) 0).eject 0 (hop 4) == some .ok
       && (flying (hop 4) 12).portOk 0 4
       && ((flying (hop 4) 0).setRfld bNOC 0x100 22 1 0).eject 0 (hop 4) == some .busy
       && (((flying (hop 4) 0).mapCv (fun c => { c with power := 0 })).eject 0 (hop 4)).isSome
       && (flying (hop 4) 12).nextFlight 0 == some ⟨⟨hop 4, []⟩, 0, 12, none, none, false⟩ && !hTree (hop 4) && hKind (hop 4) == 0
       && (List.range 16).all (fun i => ((flying (hop 4) 0).probe i).mode == 0)) = true := by decide +kernel
theorem test_hyp_RouterHopBack :
    (let h := headOf 1 0 1 0 20 5 false false 0 0 0 0 0
     let go (r : Nat) (f : Flight) : State := (tree .run).mapNoc (fun x => { x with flights := [{ f with at_ := r }] })
     let back : Flight := ⟨⟨officeHead h, []⟩, 46, 0, none, some .busy, false⟩
     let data : Flight := ⟨⟨headOf 1 1 2 0 20 1 false false 0 0 0 0 0, [0]⟩, 0, 0, none, none, false⟩
     (go 46 back).nextFlight 46 == some back && decide (4 ≤ nextPort back 46) && hKind h == 5 && (go 0 data).nextFlight 0 == some data
       && (go 0 ⟨⟨h, []⟩, 0, 12, none, none, false⟩).nextFlight 0 == some ⟨⟨h, []⟩, 0, 12, none, none, false⟩) = true := by
  decide +kernel

/-- R552: at one output CTRL goes first; then BULK and TRACE packets of two flits share as 2 to 1. R548: the wrap link of a ring. -/
theorem test_routerShares :
    (let f (vc len : Nat) : Flight := ⟨⟨headOf 0 vc len 0 20 1 false false 0 0 0 0 0, []⟩, 0, 0, none, none, false⟩
     let go (s : State) : State := s.routerHop 0 .clean
     let vcs (s : State) : List Nat := (s.noc.flights.filter (fun f => f.at_ == 8)).map (fun f => hVc f.packet.head)
     let s := (tree .run).mapNoc (fun x => { x with
       flights := [f 3 2, f 3 2, f 1 2, f 1 2, f 1 2, f 0 1], disabled := [] })
     vcs (go s) == [0] && vcs (go (go (go (go s)))) == [0, 1, 3, 1]
       && upperSet 56 0 none == some false && upperSet 0 0 (some false) == some false && upperSet 8 1 (some false) == none
       && upperSet 0 3 none == some true) = true := by
  decide +kernel
theorem test_hyp_Turning :
    (let s := (flying (headOf 0 0 1 0 20 0 false false 0 0 0 0 0) 0).mapSys (fun y => { y with transition := some (.maintenance, none) })
     s.turning && s.noc.flights.length == 1 && s.sys.posted.isEmpty && !(tree .run).turning) = true := by decide +kernel
theorem test_hyp_Probes :
    (let x : Probe := { mode := 2, router := 63, port := 5, cls := 0, kinds := 63, src := 0, anySrc := true, dst := 0, anyDst := true, bank := 63,
                        prev := 0, packets := 2 ^ 48 - 1, flits := 0, wpos := 32767, loss := 0 }
     let s := ((host .run).setProbe 15 x).setRfld bPH 0x13F 0 8 0x3F
     (s.probe 15) == x && s.owner 63 == 0x3F && (List.range 16).any (fun c => ({ x with cls := c } : Probe).matches_ 63 5 (head 0 20 1 false))
       && !x.matches_ 62 5 (head 0 20 1 false)) = true := by decide +kernel
theorem test_hyp_PacketsServed :
    (let at_ (n kind : Nat) : State := (tree .run).mapNoc (fun x => { x with arrived := sput [] [] n [(⟨head kind n 8 true, List.replicate 8 0⟩, false)] })
     (List.range 6).all (fun k => hKind (head k 20 8 true) == k) && (sget [] (at_ 31 0).noc.arrived 31).length == 1
       && ((at_ 31 0).pop 31).dramAt 31 (headOf 0 0 1 0 31 0 true true 0 0 0 (3 * 2 ^ 32 + 1536) 511) == none
       && (((at_ 16 1).pop 16).dramAt 16 (headOf 0 0 1 0 16 0 false true 0 0 0 (2 ^ 34 - 1) 7)).isSome
       && hSrc (headOf 0 0 1 106 100 4 false true 0 0 0 0 0) == 106 && (at_ 31 0).routed
       && (List.range 6).all (fun k => (at_ 31 0).rfld bNOC (0x400 + 4 * 31 + k % 4) 16 8 == 0)
       && (at_ 31 0).mem.dramBad.isEmpty
       && (((at_ 31 2).pop 31).dramAt 31 (headOf 0 0 1 0 31 2 true true 0 0 0 (3 * 2 ^ 32 + 1536) 511)).isNone
       && (let s := (at_ 31 0).setRfld bNOC (0x400 + 4 * 31) 16 8 1
           s.rfld bNOC (0x400 + 4 * 31) 16 8 == 1 && sget 0 s.noc.tokens (4 * 31) == 0)
       && (let r := headOf 0 0 1 110 106 5 false true 0 0 0 0 0
           let s := ((window 0x100000 0x30 (fm 8 0 0 0)).setRfld bNOC 0 0 1 1).mapNoc (fun x => { x with
             arrived := sput [] [] 106 [(⟨r, []⟩, false)], office := [(head 0 20 8 true, .busy)] })
           s.nocUp && answered (hAddr r % 8) && s.seq.wait == .window 0x30 (fm 8 0 0 0) && hKind r == 5
             && (s.mapSeq (fun q => { q with wait := .none })).seq.wait.stallsStream == false && s.noc.office.length == 1)) = true := by
  decide +kernel
theorem test_hyp_Domains :
    (let s := up .run
     s.domainUp 356 && s.nocUp && s.noc.quiesced.isEmpty
       && ((s.mapNoc (fun x => { x with quiesced := [(63, 0x21)] })).noc.quiesced == [(63, 0x21)])
       && (let t := s.setDomain 312 false; !t.domain 312) && (let t := s.mapCv (fun c => { c with power := 0 })
           !t.domain 271 && !t.domain 0 && (logTile t.cv.failed 0).isSome && !(logTile t.cv.failed 271).isSome)
       && ((s.mapSys (fun y => { y with held := [356] })).sys.held.contains 356) && !s.sys.held.contains 0
       && (s.setReg bCLK 0 0xF00000).clockGood 311 && !(s.setReg bCLK 0 0).clockGood 311 && s.sys.pb.pll == s.clockGood 356
       && (s.reg bRST 2).getLsbD 23 == false
       && (List.range 357).any (fun d => ((s.markNis d 1).closed d) && !(s.markNis d 1).keepOn d)
       && (List.range 357).any (fun d => s.domainUp d && !s.keepOn d) && s.keepOn 352
       && (let m := up .maintenance
           let t := m.mapCv (fun c => { c with power := 0 })
           !t.domain 271 && t.mayPower 271 && !(State.reset.mayPower 0) && !s.comingOn 0 && (t.mapSys (fun y => { y with held := [271] })).comingOn 271)
       && (let w := (flying (headOf 0 0 1 0 31 0 false true 0 0 0 0 0) 0)
           let x := w.mapNoc (fun x => { x with flights := x.flights.map (fun f => { f with at_ := routerOf 31 }) })
           x.nocUp && !x.sys.shutdown && x.wanted 331 && x.domain 331 && !x.closed 331 && (x.markNis 331 1).closed 331
             && !(x.setDomain 331 false).domain 331 && (x.setDomain 331 false).wanted 331)
       && (let z := (up .maintenance).mapCv (fun c => { c with zeroing := BitVec.allOnes 272 })
           z.cv.zeroing.getLsbD 271 && !z.sys.held.contains 271 && z.sys.mode == .maintenance)) = true := by decide +kernel
theorem test_hyp_MemoryEvents :
    (let s := up .run
     s.rfld bDRM 0 0 8 != 0 && ((up .run).setRfld bDRM 0 0 8 0).rfld bDRM 0 0 8 == 0 && s.rfld bDRM 1 6 2 == 0 && !s.lost 3
       && (s.setRfld bDRM 1 6 2 1).lost 3 && !s.lost (mirrorOf 3) && (s.setRfld bPH 0x13F 22 1 1).wiping 63 && s.sys.wipe.isNone) = true := by
  decide +kernel

/-! ### Requests and host ports -/

/-- A request reaches its row, and passes every check that does not depend on its row. -/
def reaches (s : State) (q : Request) (ver : Nat) : Bool :=
  s.interprets (.ring .a) && s.takePacket .a q == (true, s) && s.check (.ring .a) q (plainDemand ver true) == (.ok, 0)

theorem test_hyp_RequestRows : ([
    (.configure, 0x01, 1, [3]), (.run, 0x02, 1, [0]), (.run, 0x02, 1, [1]), (.run, 0x02, 1, [2]), (.standby, 0x03, 1, [2]),
    (.maintenance, 0x10, 1, [0, 0, 0, 96, 0]), (.configure, 0x10, 1, [1, 0, 0, 96, 0]), (.run, 0x10, 1, [2, 0, 0, 96, 0]),
    (.configure, 0x10, 1, [3, 0, 0, 96, 0]), (.configure, 0x10, 1, [4, 0, 0, 96, 0]), (.configure, 0x11, 1, [0x20]), (.configure, 0x12, 1, [196, 0]),
    (.run, 0x13, 1, [0, 0, 0]), (.run, 0x13, 1, [1, 0xFFFFFF]), (.run, 0x13, 1, [2, 1023, 1023]),
    (.configure, 0x14, 1, [1800, 64, 0, 0] ++ List.replicate 12 0), (.run, 0x20, 2, [1, 10000, 0x168 + 0x400 + 0x800]), (.run, 0x21, 2, [0]),
    (.run, 0x21, 2, [1, 5]), (.armed, 0x30, 1, [7]), (.armed, 0x31, 1, []), (.run, 0x31, 1, []), (.run, 0x40, 1, [0, 0, 0, 0]),
    (.run, 0x41, 1, [31]), (.run, 0x50, 1, [7, 15]), (.run, 0x51, 1, [7, 15]), (.run, 0x60, 3, [0]), (.run, 0x60, 3, [1]), (.run, 0x60, 3, [2, 2]),
    (.run, 0x60, 3, [3] ++ List.replicate 23 0), (.run, 0x61, 3, List.replicate 11 0), (.run, 0x62, 3, List.replicate 12 0), (.standby, 0x63, 1, [3]),
    (.standby, 0x64, 1, [2]), (.run, 0x70, 1, [0]), (.run, 0x70, 1, [1]), (.run, 0x70, 1, [2]), (.maintenance, 0x71, 1, [63]),
    (.run, 0x72, 1, [15, 0, 0])] : List (Mode × Nat × Nat × List Nat)).all (fun e =>
      let q := req e.2.1 3 1 (if e.2.1 = 0x70 ∧ e.2.2.2 = [2] then bDRM else 0) e.2.2.2
      reaches (host e.1) q e.2.2.1 && q.op == e.2.1 && q.opcode == BitVec.ofNat 8 e.2.1) = true := by decide +kernel
theorem test_request_answers :
    replied (host .run) (.runStart .a { req 0x30 3 1 0 [7] with w1 := 0x01000000 }) = some 0x0A
    ∧ replied (host .run) (.runStart .a { req 0x30 3 1 0 [7] with w3 := 1 }) = some 0x14
    ∧ replied (host .run) (.budgetGrant .a (req 0x20 1 1 0 [1, 0, 0x968])) = some 0x07
    ∧ replied (host .run) (.runStart .a (req 0x30 3 5 0 [7])) = some 0x05
    ∧ replied (host .run) (.runStart .a { req 0x30 3 1 0 [7] with w1 := 2 }) = some 0x0A
    ∧ replied (host .run) (.runStart .a (req 0x30 3 1 0 [7])) = some 0x0D
    ∧ replied (host .run) (.unknownOpcodeRequest .a (req 0x04 3 1 0 [])) = some 0x0E
    ∧ replied (host .run) (.readback .a (req 0x72 3 2 0 [0, 0, 0])) = some 0x05
    ∧ replied ((host .run).mapFrk (fun f => { f with secured := true })) (.budgetGrant .a (req 0x20 3 2 0 [1, 0, 0x968])) = some 0x05
    ∧ replied { host .run with otp := { State.reset.otp with log := [4] } } (.budgetGrant .a (req 0x20 3 1 0 [1, 0, 0x968])) = some 0x12 := by
  decide +kernel
theorem test_hyp_Requests :
    State.reset.interprets (.ring .a) = false ∧ ((host .run).takePacket .a { req 0x03 1 0 0 [2] with payload := [] }).1 = false
    ∧ (let q := req 0x30 3 1 0 [7]
       (host .armed).check5 (.ring .a) q 1 = .ok ∧ ((host .armed).mapPort .a (fun h => { h with
         jobs := [⟨0x11, .ring .a, 0, 0, 1, 0, [], false⟩] })).interprets (.ring .a) = true) := by decide +kernel
/-- R619: beside a READBACK of block 0, only another target block, another port, or HELLO is taken. -/
theorem test_follows :
    (let s := (host .run).mapPort .a (fun h => { h with jobs := [⟨0x72, .ring .a, 0, 0, 1, 0, [], false⟩] })
     s.follows (.ring .a) (req 0x03 1 0 0 [2]) && !s.follows (.ring .a) { req 0x7E 1 0 0 [0, 1] with w2 := 5 }
       && !s.follows (.ring .b) (req 0x03 1 0 0 [2]) && !s.follows (.ring .a) (req 0x01 1 0 0 [])) = true := by decide +kernel
theorem test_hyp_Replies :
    (let s := host .run
     s.ringRoom .a false 4 == some (0, false) && (s.port .a).replies.isEmpty && s.ringRoom .a true 4 == some (0, false)
       && ((s.setReg (mbx .a) 0x018 16380).ringRoom .a true 4).isNone && (req 0x03 1 0 0 [2]).w1.getLsbD 0 == false
       && ({ req 0x03 1 0 0 [2] with w1 := 1 } : Request).w1.getLsbD 0) = true := by decide +kernel
theorem test_hyp_Doorbells :
    (let s := (host .run).setReg (mbx .a) 0x010 16
     s.awake .a && s.sys.transition.isNone && decide ((s.reg (mbx .a) 0x008).toNat < 131072) && (s.reg (mbx .a) 0x010).toNat == 16) = true := by
  decide +kernel
theorem test_doorbells :
    after ((host .run).setReg (mbx .a) 0x010 16) (.hostDbRep .a 16) (fun t => (t.reg (mbx .a) 0x00C, (t.reg (dbl .a) 0x020).getLsbD 2))
      = some (16, false)
    ∧ after ((host .run).setReg (mbx .a) 0x010 16) (.hostDbRep .a 20) (fun t => (t.reg (mbx .a) 0x00C, (t.reg (dbl .a) 0x020).getLsbD 2))
      = some (0, true)
    ∧ after (host .run) (.hostDbReq .a 131068) (fun t => (t.reg (mbx .a) 0x008).toNat) = some 131068
    ∧ after (host .run) (.hostDbReq .a 131072) (fun t => (t.reg (mbx .a) 0x008).toNat) = some 0 := by decide +kernel
theorem test_hyp_Semaphores :
    (let own (k : Nat) : State := (host .run).setSem 127 (k, 1)
     (own 0).sem 127 == (0, 1) && (own 1).sem 127 == (1, 1) && (own 2).sem 127 == (2, 1) && (host .run).sem 127 == (0, 0)
       && portIdx .a + 1 == 1) = true := by decide +kernel
theorem test_semaphore_lease_bound :
    after (host .run) (.semWrite .a 127 0xF42400 none) (fun t => t.sem 127) = some (1, 16000000)
    ∧ after (host .run) (.semWrite .a 127 0xF42401 none) (fun t => (t.sem 127, fld (t.reg (mbx .a) 0x04C) 16 8)) = some ((0, 0), 0x0A) := by
  decide +kernel
/-- Port A's NI may not inject. -/
def closedPort (m : Mode) : State := (host m).setRfld bNOC 0x164 23 1 0

theorem test_hyp_PortEvents :
    (let s := host .sleep
     (s.port .a).link && !s.sys.shutdown && s.sys.mode == .sleep && s.sys.transition.isNone && !(State.reset.port .a).link
       && ((host .run).setRfld bRST 1 2 1 1).rfld bRST 1 2 1 == 1
       && (let r := (host .run).mapPort .a (fun h => { h with replies := [[1, 2, 3, 4]] })
           (r.port .a).replies == [[1, 2, 3, 4]] && (r.replyFits .a [1, 2, 3, 4]).isSome)
       && s.portOn .a && (host .run).portOn .a && !(host .run).barHeld .a none && (closedPort .run).barHeld .a none
       && (closedPort .run).barHeld .a ((closedPort .run).bar2Target .a 0 4 true) && (host .run).sys.resetDue.isNone
       && (host .run).sys.boot == .done && !(host .run).x16 && ((host .run).setRfld bRST 1 2 1 1).x16) = true := by decide +kernel

/-- User region 0 of DRAM valid over 1 MiB and claimed by session 2 of port A. -/
def dramed (m : Mode) : State :=
  (((host m).setReg bSEC 0x040 0x800000).setReg bSEC 0x041 1).mapSys (fun y => { y with claims := [⟨7, 0, some .a, 2⟩] })
def waitingBoot : State :=
  ((host .standby).mapSys (fun y => { y with boot := .host ⟨0, [], 0, 0⟩ })).setRfld bRST 1 4 2 3

theorem test_hyp_HostWindows :
    (let s := dramed .run
     s.bar2At .a 0 == 0 && s.bar2Bar .a 0xFFFFC 4 == none && (s.bar2Bar .a 0xFFFFD 4).isSome && (s.dramRead 0 4).1 == .ok
       && ((s.mapMem (fun m => { m with dramBad := [0] })).dramRead 0 4).1 != .ok && !s.bootPort .a && waitingBoot.bootPort .a
       && (s.bankAccess (ownHost .a) false true 0 0 0 5).1 == .ok && (s.bankAccess (ownHost .a) false false 0 0 0x3FFFF 5).1 == .ok
       && (s.bankAccess (ownHost .a) false true 0 5 0 5).1 != .ok && s.bounced 100 32 == none
       && (s.setRfld bNOC 0x120 22 1 0).bounced 100 32 == some .busy && s.bounced 100 (dramNi 0) == none && (host .sleep).sys.mode == .sleep
       && s.portOn .a && s.awakeTo .a (s.bar2Target .a 0 4 true) && s.awakeTo .a (s.bar2Target .a 0 4 false)
       && [true, false].all (fun own => s.awakeTo .a (s.bankTarget .a own true) && s.awakeTo .a (s.bankTarget .a own false))
       && waitingBoot.portOn .a && waitingBoot.awake .a && ((s.setRfld (mbx .a) 0x044 6 2 3).rfld (mbx .a) 0x044 6 2) == 3
       && (let c := closedPort .run
           c.barHeld .a (c.bar2Target .a 0 4 false) && c.barHeld .a (c.bankTarget .a true false)
             && !(c.awakeTo .a (c.bar2Target .a 0 4 false)) && c.portOn .a)
       && (let b := s.mapMem (fun m => { m with phBad := [0] })
           (b.bankAccess (ownHost .a) false false 0 0 0 5).1 == .uncorrectable && (b.bounced 100 32).isNone)) = true := by decide +kernel
theorem test_bar2_write_reads_back : after (dramed .run) (.bar2Write .a 8 [1, 2, 3]) (fun t => (t.dbyte 9, t.dbyte 11)) = some (2, 0) := by
  decide +kernel
theorem test_hyp_CaptureRead :
    (let s := ((host .run).setReg bMBG 0x01F 0x808000).mapSys (fun y => { y with claims := [⟨2, 15, some .a, 2⟩] })
     let q := req 0x32 3 2 0 [15, 1, 0x34000]
     s.interprets (.ring .a) && s.takePacket .a q == (true, s)
       && s.check (.ring .a) q { plainDemand 1 true with permit := (s.needs (.ring .a) 2 2 15, 0) } == (.ok, 0)
       && (s.bagRead 0 65536 0 0).1 == .ok && ((s.mapMem (fun m => { m with dramBad := [0] })).bagRead 0 65536 0 1).1 != .ok
       && (s.dramBar false 0 16).isNone && (s.dramBar false 0xE0000000 16).isSome) = true := by decide +kernel
/-- A DEPLOYED module whose session 1 holds a DRAM region, probe 5, mailbag 15 and a staged patch. -/
def rich (m : Mode) : State :=
  { (((host m).setReg bSEC 0x040 0x800000).setReg bSEC 0x041 4).setReg bMBG 0x01F 0x808000 with
    otp := { State.reset.otp with log := [1, 2] } }.mapSys (fun y => { y with
      claims := [⟨7, 0, some .a, 1⟩, ⟨1, 5, some .a, 1⟩, ⟨8, 1, some .a, 1⟩, ⟨2, 15, some .a, 1⟩], staged := sput [] [] 1 [1] })

/-- Requests that are carried out: each row's status after every check of R625, and 0x111 where the command goes on. -/
def carried (s : State) (c : Instr) : Nat :=
  match exec c s with
  | .next t => if !(t.port .a).jobs.isEmpty then 0x111 else if (t.reg (mbx .a) 0x010).toNat = 0 then 0x110 else fld (t.cont 0 0x20002) 16 8
  | _ => 0x112

theorem test_hyp_RowsAccept :
    (let r := rich .run
     [carried r (.getInfoIdentity .a (req 0x02 3 1 0 [0])), carried r (.getInfoFormats .a (req 0x02 3 1 0 [1])),
      carried r (.getInfoState .a (req 0x02 3 1 0 [2])), carried r (.budgetQueryLedger .a (req 0x21 3 1 0 [0])),
      carried r (.probeRead .a (req 0x41 3 1 0 [21])), carried r (.budgetGrant .a (req 0x20 3 1 0 [1, 10000, 0x968])),
      carried (rich .armed) (.runStart .a (req 0x30 3 1 0 [7])), carried (rich .armed) (.runStop .a (req 0x31 3 1 0 [])),
      carried r (.captureRead .a (req 0x32 3 1 0 [15, 1, 0x34000])), carried r (.sessionClose .a (req 0x60 3 1 0 [2, 2])),
      carried r (.claim .a (req 0x50 3 1 0 [1, 6])), carried r (.release .a (req 0x51 3 1 0 [7, 0])),
      carried r (.probeSet .a (req 0x40 3 1 0 [0x15, 0, 0, 0])), carried (rich .maintenance) (.selftest .a (req 0x71 3 1 0 [0])),
      carried r (.resetCore .a (req 0x70 3 1 0 [0])), carried r (.resetBlock .a (req 0x70 3 1 bDRM [2])),
      carried r (.regRead .a (req 0x7E 3 2 bTIM [0, 2])), carried (rich .configure) (.commit .a (req 0x11 3 1 0 [2]))].all (· == 0)
     && [carried r (.getPlacementPostcode .a (req 0x13 3 1 0 [1, 5])), carried r (.getPlacementPe .a (req 0x13 3 1 0 [2, 5, 5]))].all (· == 0x11)
     && [carried (rich .configure) (.setMode .a (req 0x03 3 1 0 [Mode.standby.code])), carried r (.runStop .a (req 0x31 3 1 0 [])),
      carried (rich .standby) (.wipe .a (req 0x63 3 1 0 [3]))].all (· == 0x111)) = true := by decide +kernel
theorem test_hyp_UnknownOpcode : opListed 0x04 = false
    ∧ (host .run).check5 (.ring .a) (req 0x04 3 1 0 []) 1 = .unknownOpcode := by decide +kernel

/-! ### Commands, modes, energy, resets and faults -/

/-- A placement of nothing. -/
def nothing : Placement :=
  { w0 := 196, w1 := 0, rows := 16, orient := 0, sx := 0, sy := 0, units := [], dir := [], tables := [], stencils := [], kept := [],
    masks := [], gated := 0, used := 0, load := 0, map := [], stencilSec := [], keptSec := [], measure := 0 }
def aJob (op : Nat) (args : List Nat) : Job := ⟨op, .ring .a, 0, 0, 1, 0, args, false⟩

/-- R692: a doorbell in SLEEP is held at the port; the request tail moves when the writes are let go. -/
theorem test_write_held_in_sleep :
    (let t := match execHostDbReq .a 4 (host .sleep) with | .next t => t | _ => host .run
     t.sys.posted == [(.a, .request 4)] && t.reg (mbx .a) 0x008 == 0) = true := by decide +kernel
theorem test_held_write_lands :
    (let u := ((host .standby).mapSys (fun y => { y with posted := [(.a, .request 4)] })).landPosted
     u.sys.posted.isEmpty && u.reg (mbx .a) 0x008 == 4) = true := by decide +kernel

theorem test_hyp_Placements :
    (let s := host .configure
     let w (r : Option Placement) : State := { s with sof := { s.sof with result := some (r, 4, 5, 6), staged := some nothing } }
     s.sof.result.isNone && (w (some nothing)).sof.result == some (some nothing, 4, 5, 6) && (w none).sof.result == some (none, 4, 5, 6)
       && (w none).sof.staged == some nothing) = true := by decide +kernel
theorem test_hyp_Parameters :
    (let s := host .configure
     s.paramBar false 255 == .ok && s.paramBar false 256 != .ok && (s.dramRead 0 512).1 == .ok && s.liveTile 255 == some 255
       && (s.mapCv (fun c => { c with power := 0 })).liveTile 255 == none && s.sys.params.isNone
       && ((s.mapSys (fun y => { y with params := some ⟨aJob 0x14 [], 1, [], []⟩ })).sys.params) == some ⟨aJob 0x14 [], 1, [], []⟩) = true := by
  decide +kernel
theorem test_hyp_Modes :
    (let t (m n : Mode) : State := (host m).mapSys (fun y => { y with transition := some (n, some (aJob 0x03 [])) })
     (t .standby .configure).sys.transition == some (.configure, some (aJob 0x03 [])) && (t .sleep .standby).sys.mode == .sleep
       && (t .sleep .standby).firmwareGood && (host .run).sys.transition.isNone
       && (host .run).sys.posted.isEmpty && (t .standby .configure).sys.posted.isEmpty
       && (let k := (t .standby .maintenance).mapNoc (fun x => { x with flights := (flying (head 0 20 8 true) 0).noc.flights })
           k.turning && !k.netEmpty && (t .standby .maintenance).netEmpty && (t .standby .maintenance).turning)
       && (t .standby .configure).closedFor .configure && !((t .configure .standby).setOutst 106 1).closedFor .standby
       && ((t .configure .standby).closeFor .standby 1).closedFor .standby && !(t .standby .configure).sys.shutdown
       && ((t .standby .configure).mapSys (fun y => { y with shutdown := true })).sys.shutdown
       && (closedPort .standby).barHeld .a ((closedPort .standby).writeTarget .a (.request 4))
       && !(host .standby).barHeld .a ((host .standby).writeTarget .a (.request 4))) = true := by decide +kernel
theorem test_hyp_Runs :
    (let s := (host .run).mapSys (fun y => { y with stopping := some (aJob 0x31 []) })
     s.sys.stopping == some (aJob 0x31 []) && s.sys.mode == .run && (host .run).sys.stopping.isNone
       && ((host .armed).mapSys (fun y => { y with stopping := some (aJob 0x31 []) })).sys.mode != .run && (host .armed).runBar == .ok) = true := by
  decide +kernel
theorem test_hyp_Sessions : ((host .run).port .a).nonce = none
    ∧ (host .run).keyCheck .a (req 0x60 3 0 0 ([3] ++ List.replicate 23 0)) ≠ .ok ∧ ((host .run).port .a).sessions.length < 16 := by decide +kernel
theorem test_session_opens_with_reply : replied (host .run) (.sessionClose .a (req 0x60 3 1 0 [2, 2])) = some 0
    ∧ after (host .run) (.sessionClose .a (req 0x60 3 1 0 [2, 2])) (fun t => (t.port .a).sessions) = some [(1, true)] := by decide +kernel
theorem test_hyp_SealRun :
    (let s := (host .run).mapSys (fun y => { y with record := some { RunRecord.none with number := 7 } })
     (s.sealable 7).isSome && (s.sealable 8).isNone) = true := by decide +kernel
theorem test_hyp_BlockReset :
    (let s := (host .run).mapPort .a (fun h => { h with jobs := [aJob 0x70 [bDRM, 3]] })
     s.resetJob == some (aJob 0x70 [bDRM, 3]) && (aJob 0x70 [bDRM, 3]).args == bDRM :: [3] && ((blockNis bDRM)[0]?).isSome && (blockNis bDRM).all (fun n => s.rfld bNOC (0x100 + n) 5 5 == 0 && s.rfld bNOC (0x100 + n) 0 5 == 0)
       && !(blockNis bDRM).all (fun n => (s.setOutst 31 1).rfld bNOC (0x100 + n) 5 5 == 0)
       && !(blockNis bDRM).all (fun n => (s.setPend 31 1).rfld bNOC (0x100 + n) 0 5 == 0) && (host .run).resetJob.isNone) = true := by decide +kernel
theorem test_hyp_Meter :
    ((host .run).metering && !State.reset.metering && (Franking.reset [0]).hourSamples == 0
     && (let s := (host .run).mapFrk (fun f => { f with budget := some ⟨1, 5, 360, 2, 3, false⟩, windowSamples := 500 })
         s.budgetDue && s.frk.next.isNone && !(s.mapFrk (fun f => { f with windowSamples := 498 })).budgetDue
           && (s.mapFrk (fun f => { f with next := some ⟨1, 5, 360, 2, 3, false⟩ })).budgetDue
           && decide (s.frk.windowLength ⟨1, 5, 360, 2, 3, false⟩ ≤ s.frk.windowSamples))
     && (let s := (host .run).mapFrk (fun f => { f with spillDue := true, ramp := some 2 })
         s.frk.spillDue && !s.frk.spill && s.frk.ramp == some 2
           && (s.mapFrk (fun f => { f with spill := true })).frk.spill && !(host .run).frk.spillDue)
     && (host .run).cp == (host .run).target
     && (let s := ((host .run).setFrk 20 2 2).mapFrk (fun f => { f with vdd := 850 })
         s.cp != s.target && !s.frkBit 13 && !s.seq.locked && decide (volts s.target ≤ s.frk.vdd) && !s.insideMacro)
     && ((window 0x100000 0x30 (fm 8 0 0 0)).mapArr (fun a => { a with run := some (aMacro 0x80 0x0000070000) })).insideMacro) = true := by
  decide +kernel
theorem test_sample_charges : after (host .run) (.frankingSample ⟨[100, 50], 1600, 40000000⟩) (fun t => (t.frk.total, t.frk.charged, t.reg bFRK 1))
    = some (150, 100, 150) := by decide +kernel
theorem test_hyp_Limits :
    (let s := ((host .run).setFrk 13 1 1).setFrk 22 2 3
     s.frkBit 13 && s.cp == 3 && !s.frk.tripPending && (s.mapFrk (fun f => { f with tripPending := true })).frk.tripPending
       && decide (20 ≤ s.period + s.frk.steps) && decide ((host .run).period + (host .run).frk.steps < 20) && !s.insideMacro
       && (s.mapFrk (fun f => { f with coolSamples := 10000 })).frk.coolSamples == 10000 && !s.sys.shutdown && !(host .run).frkBit 13) = true := by
  decide +kernel
theorem test_hyp_Shutdown : ((host .run).mapSys (fun y => { y with shutdown := true })).sys.shutdown = true ∧ (host .run).sys.shutdown = false := by
  decide +kernel
theorem test_hyp_UnitFails : ((host .maintenance).setRfld bDRM 1 6 2 1).unitFails 2 = true
    ∧ ((host .maintenance).mapCv (fun c => { c with lost := 1 })).unitFails 0 = true ∧ (host .maintenance).unitFails 0 = false := by decide +kernel
theorem test_hyp_Resets : (host .run).sys.mode ≠ .sleep ∧ (host .run).sys.boot ≠ .reset ∧ State.reset.sys.boot = .reset := by decide +kernel
theorem test_hyp_StartUp :
    (let s := State.reset.mapSys (fun y => { y with hot := true })
     s.sys.hot = true ∧ 1520 < (1521 : BitVec 16).toInt ∧ State.reset.sys.hot = false ∧ (1520 : BitVec 16).toInt ≤ 1520)
    ∧ State.reset.sys.noClock.contains 353 = false ∧ State.reset.sys.held.contains 353 = false ∧ waitingBoot.awake .a = true
    ∧ waitingBoot.sys.transition = none ∧ (host .run).sys.boot = .done ∧
    State.reset.sys.strapped = false ∧ bootSource (strapCode 0) = 0 ∧ bootSource (strapCode 120) ≠ 0 ∧ waitingBoot.sys.boot = .host ⟨0, [], 0, 0⟩
    ∧ (waitingBoot.port .a).link = true ∧ waitingBoot.bootPort .a = true ∧ firmwareCheck waitingBoot.otp [] ≠ .ok := by decide +kernel
theorem test_hyp_Faults :
    (let s (l : List Fault1) (f : Bool) : State := (host .run).mapSys (fun y => { y with faults := l, faulted := f, restart := l.isEmpty })
     (s [] true).functionUp 3 && !((s [] true).mapSys (fun y => { y with coresUp := 7 })).functionUp 3
       && (s [.sequencer 5 false] true).sys.faults == [.sequencer 5 false] && (s [] true).tw.load.isNone && (s [] false).sys.restart
       && (s [.tile 16 15] false).sys.faults == [.tile 16 15] && !(s [] false).cv.failed.contains 16
       && ((s [.tile 16 15] false).mapCv (fun c => { c with failed := [16] })).cv.failed.contains 16
       && lrows (s [] true).cv.failed != 0 && lrows (List.range 17) == 0 && (s [] false).sys.coresUp.getLsbD 3 && !(s [] false).sys.takenOver
       && (let t := ({ s [] false with tim := { (s [] false).tim with present := true } } : State)
           t.tim.present && t.sys.mode == .run && t.sys.restart && t.sys.faults.isEmpty)
       && (s [] true).sof.result.isNone && (s [] true).arr.run.isNone && (s [] true).arr.pipe.isEmpty && (s [] true).sys.challenge.isNone
       && ((s [] true).otp.sessionKey 4).isNone && !(s [] true).sys.coresUp.getLsbD 3 == false
       && ((s [] true).mapSys (fun y => { y with takenOver := true })).sys.takenOver) = true := by decide +kernel

end Sys2Proof.Tests
end

section
/-! SUPPORT. Register windows: what a push or a pop of a frame does to every D register, when SAVE and RESTORE move the window,
at their issue and after their wait, and what the spiller does with the last word of a record. -/

namespace Sys2Proof.Machine

/-! ### Physical numbers of the D registers -/

theorem dPhys_global (q : Seq) {r : Nat} (h : r < 8) : dPhys q r = r := if_pos h

theorem dPhys_inOrLocal {q : Seq} (htw : q.tw = false) {i : Nat} (h : i < 16) : dPhys q (8 + i) = 8 + 16 * q.top.val + i := by
  unfold dPhys
  rw [if_neg (by omega), if_pos (by omega), if_neg (by simp [htw]), Nat.add_sub_cancel_left]

theorem dPhys_out (q : Seq) (i : Nat) : dPhys q (24 + i) = 8 + 16 * ((q.top.val + 1) % 12) + i := by
  unfold dPhys
  rw [if_neg (by omega), if_neg (by omega), Nat.add_sub_cancel_left]

/-! ### Clean groups -/

theorem physGet_cleanGroup (q : Seq) (g p : Nat) : physGet (cleanGroup q g) p = if dGroup p = g then 0 else physGet q p := by
  have hbit : (cleanGroup q g).dDirty.getLsbD (dGroup p) = (q.dDirty.getLsbD (dGroup p) && !decide (dGroup p = g)) := by
    simp only [cleanGroup, BitVec.getLsbD_and, BitVec.getLsbD_not, getLsbD_ofNat_two_pow]
    by_cases hp : dGroup p < 54
    · simp [hp]
    · simp [hp, BitVec.getLsbD_of_ge _ _ (Nat.le_of_not_lt hp)]
  have hregs : (cleanGroup q g).dRegs = q.dRegs := rfl
  unfold physGet
  rw [hbit, hregs]
  by_cases h : dGroup p = g <;> simp [h]

theorem physGet_cleanGroups (q : Seq) (gs : List Nat) (p : Nat) :
    physGet (gs.foldl cleanGroup q) p = if dGroup p ∈ gs then 0 else physGet q p := by
  induction gs generalizing q with
  | nil => simp
  | cons g gs ih =>
    rw [List.foldl_cons, ih, physGet_cleanGroup]
    by_cases h : dGroup p = g <;> simp [h]

/-! ### Frames (R229, R234) -/

@[simp] theorem Seq.pushFrame_top (q : Seq) : q.pushFrame.top = q.top + 1 := rfl

/-- R234: of the registers, a push cleans the locals of the new frame and the first half of the window after it, its outs. -/
theorem Seq.physGet_pushFrame (q : Seq) (p : Nat) : physGet q.pushFrame p =
    if dGroup p ∈ [winGroup ((q.top.val + 1) % 12) 2, winGroup ((q.top.val + 1) % 12) 3,
      winGroup ((q.top.val + 2) % 12) 0, winGroup ((q.top.val + 2) % 12) 1] then 0 else physGet q p :=
  physGet_cleanGroups q _ p

theorem Seq.dGet_pushFrame_global (q : Seq) {i : Nat} (h : i < 8) : dGet q.pushFrame i = dGet q i := by
  unfold dGet
  rw [dPhys_global _ h, dPhys_global _ h, q.physGet_pushFrame, if_neg]
  simp only [List.mem_cons, List.not_mem_nil, or_false, dGroup, winGroup]
  omega

theorem Seq.dGet_pushFrame_in {q : Seq} (htw : q.tw = false) {i : Nat} (h : i < 8) :
    dGet q.pushFrame (8 + i) = dGet q (24 + i) := by
  have hphys : dPhys q.pushFrame (8 + i) = dPhys q (24 + i) := by
    rw [dPhys_inOrLocal (q := q.pushFrame) htw (by omega), dPhys_out, q.pushFrame_top, Fin.val_add]
    rfl
  unfold dGet
  rw [hphys, dPhys_out, q.physGet_pushFrame, if_neg]
  simp only [List.mem_cons, List.not_mem_nil, or_false, dGroup, winGroup]
  omega

theorem Seq.dGet_pushFrame_localOrOut {q : Seq} (htw : q.tw = false) {i : Nat} (h : i < 16) :
    dGet q.pushFrame (16 + i) = 0 := by
  have htop : q.pushFrame.top.val = (q.top.val + 1) % 12 := Fin.val_add _ _
  unfold dGet
  rw [q.physGet_pushFrame, if_pos]
  simp only [List.mem_cons, List.not_mem_nil, or_false, dGroup, winGroup]
  by_cases hi : i < 8
  · have hp : dPhys q.pushFrame (16 + i) = 8 + 16 * q.pushFrame.top.val + (8 + i) := by
      rw [← dPhys_inOrLocal (q := q.pushFrame) htw (by omega), ← Nat.add_assoc]
    omega
  · obtain ⟨j, rfl⟩ := Nat.exists_eq_add_of_le (Nat.le_of_not_lt hi)
    have hp := dPhys_out q.pushFrame j
    rw [show 16 + (8 + j) = 24 + j by omega]
    omega

theorem Seq.dGet_popFrame_global (q : Seq) {i : Nat} (h : i < 8) : dGet q.popFrame i = dGet q i := by
  unfold dGet
  rw [dPhys_global _ h, dPhys_global _ h]
  rfl

theorem Seq.dGet_popFrame_out {q : Seq} (htw : q.tw = false) {i : Nat} (h : i < 8) :
    dGet q.popFrame (24 + i) = dGet q (8 + i) := by
  have htop : q.popFrame.top.val = (q.top.val + 11) % 12 := Fin.val_add _ _
  have hphys : dPhys q.popFrame (24 + i) = dPhys q (8 + i) := by
    rw [dPhys_inOrLocal htw (by omega), dPhys_out]
    omega
  unfold dGet
  rw [hphys]
  rfl

/-! ### Retirement -/

theorem Seq.advance_eq (q : Seq) :
    q.advance = { q with pc := q.nextPc, rptc := if q.rptc = 0 then 0 else q.rptc - 1 } := by
  obtain ⟨hpc, hrptc, -, -⟩ := retired_advance q 0 0
  have hframe : q.advance = { q with pc := q.advance.pc, rptc := q.advance.rptc } := by
    unfold Seq.advance
    split <;> rfl
  rw [hframe]
  simp only at hpc hrptc
  rw [hpc, hrptc]

theorem Seq.dGet_retired (q : Seq) (n r : Nat) : dGet { q.advance with freeAt := n, loaded := none } r = dGet q r := by
  rw [Seq.advance_eq]
  rfl

/-- R229, R241: beside the register groups that it cleans, a push with its retirement changes TOP, RES, the worlds of the frames
and the issue bookkeeping. -/
theorem Seq.pushFrame_retired (q : Seq) (n : Nat) :
    let q' := { q.pushFrame.advance with freeAt := n, loaded := none }
    { q' with dDirty := q.dDirty, top := q.top, res := q.res, frameWorlds := q.frameWorlds,
              pc := q.pc, rptc := q.rptc, freeAt := q.freeAt, loaded := q.loaded } = q
      ∧ q'.top = q.top + 1 ∧ q'.res = q.res + 1 ∧ q'.frameWorlds = q.world :: q.frameWorlds := by
  rw [Seq.advance_eq]
  exact ⟨rfl, rfl, rfl, rfl⟩

/-- R229: a pop with its retirement changes TOP, RES, the worlds of the frames and the issue bookkeeping. -/
theorem Seq.popFrame_retired (q : Seq) (n : Nat) :
    let q' := { q.popFrame.advance with freeAt := n, loaded := none }
    { q' with top := q.top, res := q.res, frameWorlds := q.frameWorlds,
              pc := q.pc, rptc := q.rptc, freeAt := q.freeAt, loaded := q.loaded } = q
      ∧ q'.top = q.top + 11 ∧ q'.res = q.res - 1 ∧ q'.frameWorlds = q.frameWorlds.drop 1 := by
  rw [Seq.advance_eq]
  exact ⟨rfl, rfl, rfl, rfl⟩

theorem State.mapSeq_congr {s : State} {f g : Seq → Seq} (h : f s.seq = g s.seq) : s.mapSeq f = s.mapSeq g :=
  congrArg (fun q => { s with seq := q }) h

theorem State.retire_mapSeq (s : State) (f : Seq → Seq) (n : Nat) :
    (s.mapSeq f).retire n = s.mapSeq (fun q => { (f q).advance with freeAt := s.cycle + n, loaded := none }) := rfl

/-! ### SAVE and RESTORE at their issue (R229 to R231, R240, R241, R261) -/

theorem State.save_of_room {s : State} (h : s.seq.res ≤ 10) : s.save = (s.mapSeq Seq.pushFrame).retire 1 := if_pos h

theorem State.restore_of_caller {s : State} (h : 2 ≤ s.seq.res) : s.restore = (s.mapSeq Seq.popFrame).retire 1 := if_pos h

theorem Seq.moving_of_idle {q : Seq} (h : q.job = none) (fill : Bool) : q.moving fill = false := by simp [Seq.moving, h]

theorem Seq.moving_of_job {q : Seq} {fill : Bool} {n : Nat} (h : q.job = some ⟨fill, n⟩) : q.moving fill = true := by
  simp [Seq.moving, h]

theorem State.save_without_room {s : State} (hres : 10 < s.seq.res) (hjob : s.seq.job = none) :
    s.save = if s.seq.spillBarred then s.trap 2
      else if s.seq.spillLimit.toNat < s.seq.spillPtr.toNat + s.seq.recLen then s.trap 3 else s.awaitSpiller .save := by
  simp [State.save, Nat.not_le.mpr hres, Seq.moving_of_idle hjob, Seq.stackFull]

theorem State.restore_without_caller {s : State} (hres : s.seq.res < 2) (hjob : s.seq.job = none) :
    s.restore = if s.seq.spillPtr.toNat ≤ s.seq.spillBase.toNat then s.trap 4 else s.awaitSpiller .restore := by
  simp [State.restore, Nat.not_le.mpr hres, Seq.moving_of_idle hjob, Seq.stackEmpty]

section
variable {s t : State} {w : BitVec 40}

theorem State.Issues.exec_save (h : s.Issues [] t) (hl : legalRRR unused unused unused unused w = true) :
    exec (.save w) s = .next (if t.seq.tw then t.haltFault 5 t.seq.pc else t.save) :=
  congrArg Host.Outcome.next (h.instr _ _ (if_pos hl))

theorem State.Issues.exec_restore (h : s.Issues [] t) (hl : legalRRR unused unused unused unused w = true) :
    exec (.restore w) s = .next (if t.seq.tw then t.haltFault 5 t.seq.pc else t.restore) :=
  congrArg Host.Outcome.next (h.instr _ _ (if_pos hl))

theorem State.Issues.exec_save_of_room (h : s.Issues [] t) (hl : legalRRR unused unused unused unused w = true)
    (htw : t.seq.tw = false) (hres : t.seq.res ≤ 10) : exec (.save w) s = .next ((t.mapSeq Seq.pushFrame).retire 1) := by
  rw [h.exec_save hl, htw, ← State.save_of_room hres]
  rfl

theorem State.Issues.exec_restore_of_caller (h : s.Issues [] t) (hl : legalRRR unused unused unused unused w = true)
    (htw : t.seq.tw = false) (hres : 2 ≤ t.seq.res) : exec (.restore w) s = .next ((t.mapSeq Seq.popFrame).retire 1) := by
  rw [h.exec_restore hl, htw, ← State.restore_of_caller hres]
  rfl

end

/-! ### SAVE and RESTORE after their wait (R228, R230, R255, R270) -/

section
variable {s t : State}

/-- R248: the repeat count steps with PC where a stalled RESTORE retires. -/
theorem State.retire_popFrame_waited (u : State) :
    ((u.mapSeq (fun q => { q with wait := .none })).mapSeq Seq.popFrame).retire 1 = u.mapSeq (fun q => { q with
      wait := .none, pc := u.seq.nextPc, rptc := (if u.seq.rptc = 0 then 0 else u.seq.rptc - 1), top := q.top + 11,
      res := q.res - 1, frameWorlds := q.frameWorlds.drop 1, freeAt := u.cycle + 1, loaded := none }) := by
  rw [State.retire_mapSeq]
  simp only [Seq.advance_eq]
  rfl

/-- `t` is the state at the end of the wait, which is empty where there is room. -/
theorem exec_stalledSave_of_room (hr : s.running = true) (hw : s.seq.wait = .save)
    (ht : (if s.seq.res ≤ 10 then s else s.untilMovedOrDue) = t) (hi : t.interruptDue = none) (hres : t.seq.res ≤ 10) :
    exec .stalledSaveExecute s = .next ((t.mapSeq (fun q => { q with wait := .none })).mapSeq (fun q => { q.pushFrame.advance with
      freeAt := t.cycle + 1, loaded := none })) := by
  have hstalled : s.stalledSave = (t.mapSeq (fun q => { q with wait := .none })).save := by
    simp [State.stalledSave, hr, hw, ht, hi, hres]
  exact congrArg Host.Outcome.next (hstalled.trans (State.save_of_room hres))

theorem exec_stalledSave_of_due (hr : s.running = true) (hw : s.seq.wait = .save)
    (ht : (if s.seq.res ≤ 10 then s else s.untilMovedOrDue) = t) {l c0 : Nat} (hi : t.interruptDue = some (l, c0)) :
    exec .stalledSaveExecute s = .next (t.takeInterrupt l c0) := by
  refine congrArg Host.Outcome.next ?_
  simp [State.stalledSave, hr, hw, ht, hi, State.takeDue]

theorem exec_stalledRestore_of_caller (hr : s.running = true) (hw : s.seq.wait = .restore)
    (ht : (if 2 ≤ s.seq.res then s else s.untilMovedOrDue) = t) (hi : t.interruptDue = none) (hres : 2 ≤ t.seq.res) :
    exec .stalledRestoreExecute s = .next (t.mapSeq (fun q => { q with
      wait := .none, pc := t.seq.nextPc, rptc := (if t.seq.rptc = 0 then 0 else t.seq.rptc - 1), top := q.top + 11,
      res := q.res - 1, frameWorlds := q.frameWorlds.drop 1, freeAt := t.cycle + 1, loaded := none })) := by
  have hmany : ¬ t.seq.res ≤ 1 := by omega
  have hstalled : s.stalledRestore = (t.mapSeq (fun q => { q with wait := .none })).restore := by
    simp [State.stalledRestore, hr, hw, ht, hi, hres, hmany]
  rw [← State.retire_popFrame_waited]
  exact congrArg Host.Outcome.next (hstalled.trans (State.restore_of_caller hres))

theorem exec_stalledRestore_of_due (hr : s.running = true) (hw : s.seq.wait = .restore)
    (ht : (if 2 ≤ s.seq.res then s else s.untilMovedOrDue) = t) {l c0 : Nat} (hi : t.interruptDue = some (l, c0)) :
    exec .stalledRestoreExecute s = .next (t.takeInterrupt l c0) := by
  refine congrArg Host.Outcome.next ?_
  simp [State.stalledRestore, hr, hw, ht, hi, State.takeDue]

end

/-! ### The spiller (R237 to R240, R243) -/

theorem exec_spill_of_moving {s : State} {n : Nat} (h : s.seq.job = some ⟨false, n⟩) : exec .spill s = .next s.untilMoved :=
  congrArg Host.Outcome.next (if_pos (by simp [Seq.moving_of_job h]))

theorem exec_fill_of_moving {s : State} {n : Nat} (h : s.seq.job = some ⟨true, n⟩) : exec .fill s = .next s.untilMoved :=
  congrArg Host.Outcome.next (if_pos (by simp [Seq.moving_of_job h]))

theorem Seq.mayFill_iff (q : Seq) :
    q.mayFill = true ↔ q.spillBase.toNat < q.spillPtr.toNat ∧ q.res ≤ 10 ∧ fld q.wctl 0 4 + q.res ≤ 10 := by
  simp only [Seq.mayFill, Seq.stackEmpty, Bool.and_eq_true, Bool.not_eq_true', decide_eq_true_eq, decide_eq_false_iff_not]
  omega

@[simp] theorem State.spillFrame_ptrWrites (s : State) : s.spillFrame.seq.ptrWrites = s.seq.ptrWrites := rfl

@[simp] theorem State.fillFrame_ptrWrites (s : State) : s.fillFrame.seq.ptrWrites = s.seq.ptrWrites := by
  simp only [State.fillFrame, State.mapSeq_seq]
  split <;> rfl

theorem Seq.flushPtrs_of_none {q : Seq} (h : q.ptrWrites = []) : q.flushPtrs = q := by
  rw [Seq.flushPtrs, h, List.foldl_nil, ← h]

/-- R228, R237: the last word of a record ends the move; the record goes where its move is still allowed. -/
theorem State.spiller_last_word {s : State} {fill : Bool} (hjob : s.seq.job = some ⟨fill, 1⟩) (hfree : s.seq.dataAt ≤ s.cycle)
    (hptr : s.seq.ptrWrites = []) :
    s.spiller = (if fill then (if s.seq.mayFill then s.fillFrame else s) else if 2 ≤ s.seq.res then s.spillFrame else s).mapSeq
      (fun q => { q with job := none }) := by
  have hflush (u : State) (hu : u.seq.ptrWrites = []) :
      u.mapSeq (fun q => ({ q with job := none }).flushPtrs) = u.mapSeq (fun q => { q with job := none }) :=
    State.mapSeq_congr (Seq.flushPtrs_of_none hu)
  unfold State.spiller
  simp only [hjob, Nat.not_lt.mpr hfree, if_false, Nat.lt_irrefl]
  apply hflush
  cases fill with
  | false => by_cases h : 2 ≤ s.seq.res <;> simp [h, hptr]
  | true => by_cases h : s.seq.mayFill = true <;> simp [h, hptr]

end Sys2Proof.Machine
end

section
/-! SUPPORT. The statement on SAVE, RESTORE and the spiller. -/

open Sys2Proof Sys2Proof.Machine

/-- Settles O22. With room SAVE and RESTORE retire a push or a pop, whose effect on the D registers is the relation between
the physical numbers before and after it; without room, and after a wait, each case is one branch of their definitions. -/
theorem saveAndRestoreMoveWindow : Obligations.SaveAndRestoreMoveWindow := by
  unfold Obligations.SaveAndRestoreMoveWindow
  refine ⟨fun s t w hi hl htw => ⟨fun hres => ?_, fun hres => ?_⟩, fun s t w hi hl => ⟨fun htw => ?_, fun htw hres hjob => ?_,
    fun htw hres hjob => ?_⟩, fun s hr => ?_⟩
  · refine ⟨_, hi.exec_save_of_room hl htw hres, rfl, retired_advance t.seq.pushFrame t.cycle 1, ?_⟩
    obtain ⟨hframe, htop, hframes, hworlds⟩ := t.seq.pushFrame_retired (t.cycle + 1)
    exact ⟨hframe, htop, hframes, hworlds, fun i h => (Seq.dGet_retired _ _ _).trans (Seq.dGet_pushFrame_global _ h),
      fun i h => (Seq.dGet_retired _ _ _).trans (Seq.dGet_pushFrame_in htw h),
      fun i h => (Seq.dGet_retired _ _ _).trans (Seq.dGet_pushFrame_localOrOut htw h)⟩
  · refine ⟨_, hi.exec_restore_of_caller hl htw hres, rfl, retired_advance t.seq.popFrame t.cycle 1, ?_⟩
    obtain ⟨hframe, htop, hframes, hworlds⟩ := t.seq.popFrame_retired (t.cycle + 1)
    exact ⟨hframe, htop, hframes, hworlds, fun i h => (Seq.dGet_retired _ _ _).trans (Seq.dGet_popFrame_global _ h),
      fun i h => (Seq.dGet_retired _ _ _).trans (Seq.dGet_popFrame_out htw h)⟩
  · rw [hi.exec_save hl, hi.exec_restore hl, htw]
    exact ⟨rfl, rfl⟩
  · rw [hi.exec_save hl, htw, State.save_without_room (by omega) hjob]
    rfl
  · rw [hi.exec_restore hl, htw, State.restore_without_caller (by omega) hjob]
    rfl
  · refine ⟨fun hdue hw hres => exec_stalledSave_of_room hr hw (if_pos hres) hdue hres,
      fun hdue hw hres => exec_stalledRestore_of_caller hr hw (if_pos hres) hdue hres,
      fun hw hres hdue hres' => exec_stalledSave_of_room hr hw (if_neg (by omega)) hdue hres',
      fun hw hres hdue hres' => exec_stalledRestore_of_caller hr hw (if_neg (by omega)) hdue hres',
      fun l c0 hw hres hdue => exec_stalledSave_of_due hr hw (if_neg (by omega)) hdue,
      fun l c0 hw hres hdue => exec_stalledRestore_of_due hr hw (if_neg (by omega)) hdue, exec_spill_of_moving,
      exec_fill_of_moving, fun fill hjob hfree hptr hspill hfill => ?_, fun hjob hfree hptr hshort => ?_⟩
    · rw [State.spiller_last_word hjob hfree hptr]
      cases fill with
      | false => simp [hspill rfl]
      | true => simp [s.seq.mayFill_iff.mpr (hfill rfl)]
    · have hbar : ¬ s.seq.mayFill = true := by
        rw [s.seq.mayFill_iff]
        omega
      rw [State.spiller_last_word hjob hfree hptr, if_pos rfl, if_neg hbar]

end

section
/-! SUPPORT. Instructions that compute on the registers: what each of them leaves of the sequencer once it has retired, and
what a result, an accumulator write and a clean accumulator do to every register. -/

namespace Sys2Proof.Machine

/-! ### Destinations -/

theorem legalRRR_dest {d a b c : Nat → Bool} {w : BitVec 40} (h : legalRRR d a b c w = true) : d (fRd w) = true := by
  simp only [legalRRR, Bool.and_eq_true] at h
  obtain ⟨⟨⟨⟨hd, -⟩, -⟩, -⟩, -⟩ := h
  exact hd

theorem legalRRI_dest {d a : Nat → Bool} {w : BitVec 40} (h : legalRRI d a w = true) : d (fRd w) = true := by
  simp only [legalRRI, Bool.and_eq_true] at h
  obtain ⟨⟨hd, -⟩, -⟩ := h
  exact hd

theorem isDA_iff {r : Nat} : isDA r = true ↔ r < 48 := decide_eq_true_iff

theorem isAC_index {r : Nat} (h : isAC r = true) : r - 48 < 8 := by
  simp only [isAC, Bool.and_eq_true, decide_eq_true_eq] at h
  omega

theorem isEvenD_iff {r : Nat} : isEvenD r = true ↔ r < 32 ∧ r % 2 = 0 := by simp [isEvenD, isD]

/-! ### Register contents and flags -/

/-- Nothing of the sequencer has changed but what its registers hold and the flags. -/
def Seq.Computed (q q' : Seq) : Prop :=
  { q' with dRegs := q.dRegs, dDirty := q.dDirty, aRegs := q.aRegs, acRegs := q.acRegs, acDirty := q.acDirty, cr := q.cr } = q

theorem Seq.computed_daSet (q : Seq) (r : Nat) (v : Word) : q.Computed (daSet q r v) := by
  unfold daSet
  split <;> rfl

theorem Seq.computed_acSet (q : Seq) (n : Nat) (v : BitVec 72) : q.Computed (acSet q n v) := rfl

theorem Seq.computed_acClean (q : Seq) (n : Nat) : q.Computed (acClean q n) := rfl

theorem daSet_cr (q : Seq) (r : Nat) (v : Word) : (daSet q r v).cr = q.cr := by
  unfold daSet
  split <;> rfl

/-- R317: two D registers, written one after the other. -/
theorem daGet_dSet_pair (q : Seq) {d : Nat} (a b : Word) (hd : d + 1 < 32) {k : Nat} (hk : k < 48) :
    daGet (dSet (dSet q d a) (d + 1) b) k = if k = d + 1 then b else if k = d then a else daGet q k := by
  have hset (u : Seq) {r : Nat} (v : Word) (hr : r < 32) : dSet u r v = daSet u r v := (if_pos hr).symm
  rw [hset q a (by omega), hset _ b hd, daGet_daSet _ _ _ _ (by omega) hk, daGet_daSet _ _ _ _ (by omega) hk]

/-! ### Results (R161, R182) -/

theorem Seq.result_eq (q : Seq) (d : Nat) (x : Alu) :
    q.result d x = { daSet q d x.value with cr := if isD d then x.cr else q.cr } := by
  unfold Seq.result
  by_cases h : isD d = true
  · simp [h]
  · simp [h, ← daSet_cr q d x.value]

theorem Seq.computed_result (q : Seq) (d : Nat) (x : Alu) : q.Computed (q.result d x) := by
  rw [Seq.result_eq]
  exact q.computed_daSet d x.value

theorem Seq.wrote_result (q : Seq) {d : Nat} (x : Alu) (h : d < 48) : q.Wrote (q.result d x) d x.value := by
  rw [Seq.result_eq]
  exact wrote_daSet q d x.value h

theorem Seq.result_cr (q : Seq) (d : Nat) (x : Alu) : (q.result d x).cr = if isD d then x.cr else q.cr := by
  rw [Seq.result_eq]

/-! ### Accumulators (R233, R234) -/

theorem acGet_acClean (q : Seq) {n : Nat} (k : Nat) (h : n < 8) :
    acGet (acClean q n) k = if k = n then 0 else acGet q k := by
  unfold acGet acClean
  simp only [BitVec.getLsbD_and, BitVec.getLsbD_not, getLsbD_ofNat_two_pow]
  by_cases hk : k = n
  · simp [hk, h]
  · by_cases h8 : k < 8
    · simp [hk, h8]
    · simp [hk, BitVec.getLsbD_of_ge _ _ (Nat.le_of_not_lt h8)]

theorem Seq.wroteAc_acClean (q : Seq) {n : Nat} (h : n < 8) : q.WroteAc (acClean q n) n 0 :=
  ⟨by rw [acGet_acClean q n h, if_pos rfl], fun k hk => by rw [acGet_acClean q k h, if_neg hk], fun _ => rfl, fun _ => rfl⟩

theorem acDirty_acSet (q : Seq) {n : Nat} (v : BitVec 72) (h : n < 8) : (acSet q n v).acDirty.getLsbD n = true := by
  simp only [acSet, BitVec.getLsbD_or, getLsbD_ofNat_two_pow, h, decide_true, Bool.and_self, Bool.or_true]

/-! ### Retirement of an instruction that computes (R168, R248) -/

section
variable {q q' : Seq}

theorem Seq.Computed.regsOnly_retired (h : q.Computed q') (n : Nat) :
    q.RegsOnly { q'.advance with freeAt := n, loaded := none } := by
  rw [Seq.advance_eq]
  exact congrArg (fun u => { u with pc := q.pc, rptc := q.rptc, freeAt := q.freeAt, loaded := q.loaded, dataAt := q.dataAt }) h

theorem Seq.Computed.retired (h : q.Computed q') (t n : Nat) :
    q.Retired { q'.advance with freeAt := t + n, loaded := none } t n := by
  unfold Seq.Computed at h
  have hpc : q'.pc = q.pc := (congrArg Seq.pc h :)
  have hrptc : q'.rptc = q.rptc := (congrArg Seq.rptc h :)
  have hq' := retired_advance q' t n
  simp only [Seq.Retired, Seq.nextPc, hpc, hrptc] at hq' ⊢
  exact hq'

theorem Seq.Wrote.retired {r : Nat} {v : Word} (h : q.Wrote q' r v) (n : Nat) :
    q.Wrote { q'.advance with freeAt := n, loaded := none } r v := by
  rw [Seq.advance_eq]
  exact h

theorem Seq.WroteAc.retired {m : Nat} {v : BitVec 72} (h : q.WroteAc q' m v) (n : Nat) :
    q.WroteAc { q'.advance with freeAt := n, loaded := none } m v := by
  rw [Seq.advance_eq]
  exact h

end

/-- From its issue in `t`, an instruction of `n` issue cycles leaves `t'`: D or A register `r` holds `v`, the flags are `c`. -/
def State.WritesReg (t t' : State) (r : Nat) (v : Word) (n : Nat) (c : BitVec 5) : Prop :=
  t.SeqOnly t' ∧ t.seq.RegsOnly t'.seq ∧ t.seq.Wrote t'.seq r v ∧ t.seq.Retired t'.seq t.cycle n ∧ t'.seq.cr = c

/-- From its issue in `t`, an instruction of `n` issue cycles leaves `t'`: accumulator `m` holds `v`, the flags are as before. -/
def State.WritesAc (t t' : State) (m : Nat) (v : BitVec 72) (n : Nat) : Prop :=
  t.SeqOnly t' ∧ t.seq.RegsOnly t'.seq ∧ t.seq.WroteAc t'.seq m v ∧ t.seq.Retired t'.seq t.cycle n ∧ t'.seq.cr = t.seq.cr

section
variable {s t : State} {srcs : List Nat} {legal : Bool} {n : State → Nat} {f : Seq → Seq}

theorem State.Issues.simple_seq (h : s.Issues srcs t) (hl : legal = true) :
    (s.simple srcs legal n f).seq = { (f t.seq).advance with freeAt := t.cycle + n t, loaded := none } := by
  rw [h.simple hl, State.retire_mapSeq]
  rfl

/-- What an instruction that computes on the registers leaves alone, and its retirement. -/
theorem State.Issues.simple_computes (h : s.Issues srcs t) (hl : legal = true) (hc : t.seq.Computed (f t.seq)) :
    t.SeqOnly (s.simple srcs legal n f) ∧ t.seq.RegsOnly (s.simple srcs legal n f).seq
      ∧ t.seq.Retired (s.simple srcs legal n f).seq t.cycle (n t) := by
  rw [h.simple_seq hl, h.simple hl]
  exact ⟨rfl, hc.regsOnly_retired _, hc.retired _ _⟩

theorem State.Issues.simple_cr (h : s.Issues srcs t) (hl : legal = true) :
    (s.simple srcs legal n f).seq.cr = (f t.seq).cr := by
  rw [h.simple_seq hl, Seq.advance_eq]

theorem State.Issues.simple_acDirty (h : s.Issues srcs t) (hl : legal = true) :
    (s.simple srcs legal n f).seq.acDirty = (f t.seq).acDirty := by
  rw [h.simple_seq hl, Seq.advance_eq]

theorem State.Issues.simple_daGet (h : s.Issues srcs t) (hl : legal = true) (k : Nat) :
    daGet (s.simple srcs legal n f).seq k = daGet (f t.seq) k := by
  rw [h.simple_seq hl, Seq.advance_eq]
  rfl

theorem State.Issues.simple_acGet (h : s.Issues srcs t) (hl : legal = true) (k : Nat) :
    acGet (s.simple srcs legal n f).seq k = acGet (f t.seq) k := by
  rw [h.simple_seq hl, Seq.advance_eq]
  rfl

/-- An instruction that writes one D or A register. -/
theorem State.Issues.simple_writesReg (h : s.Issues srcs t) (hl : legal = true) {r : Nat} {v : Word} {c : BitVec 5}
    (hc : t.seq.Computed (f t.seq)) (hw : t.seq.Wrote (f t.seq) r v) (hcr : (f t.seq).cr = c) :
    t.WritesReg (s.simple srcs legal n f) r v (n t) c := by
  obtain ⟨hseq, hregs, hret⟩ := h.simple_computes hl hc (n := n)
  refine ⟨hseq, hregs, ?_, hret, (h.simple_cr hl).trans hcr⟩
  rw [h.simple_seq hl]
  exact hw.retired _

/-- An instruction that writes one accumulator. -/
theorem State.Issues.simple_writesAc (h : s.Issues srcs t) (hl : legal = true) {m : Nat} {v : BitVec 72}
    (hc : t.seq.Computed (f t.seq)) (hw : t.seq.WroteAc (f t.seq) m v) (hcr : (f t.seq).cr = t.seq.cr) :
    t.WritesAc (s.simple srcs legal n f) m v (n t) := by
  obtain ⟨hseq, hregs, hret⟩ := h.simple_computes hl hc (n := n)
  refine ⟨hseq, hregs, ?_, hret, (h.simple_cr hl).trans hcr⟩
  rw [h.simple_seq hl]
  exact hw.retired _

end

end Sys2Proof.Machine
end

section
/-! SUPPORT. The values of multiplies, accumulator parts and divides, and the issue cycles of a multiply. -/

namespace Sys2Proof.Machine

/-! ### Issue cycles of a multiply (R312, R313) -/

/-- Digit count `k` suffices for the multiplier `y`: its bits from `4k` up are copies of its extension. -/
def MulFits (signed : Bool) (y : Word) (k : Nat) : Prop := ∀ i < 24, 4 * k ≤ i → y.getLsbD i = (signed && y.getLsbD 23)

theorem mulDigits_test (signed : Bool) (y : Word) (j : Nat) :
    (List.range 24).all (fun i => i < 4 * (j + 1) || (y.getLsbD i == (signed && y.msb))) = true ↔ MulFits signed y (j + 1) := by
  simp only [List.all_eq_true, List.mem_range, Bool.or_eq_true, decide_eq_true_eq, beq_iff_eq, BitVec.msb_eq_getLsbD_last,
    MulFits, ← Nat.not_lt, Classical.or_iff_not_imp_left]

theorem mulDigits_of_least {signed : Bool} {y : Word} {k : Nat} (h1 : 1 ≤ k) (h6 : k ≤ 6) (hfits : MulFits signed y k)
    (hleast : ∀ j < k, 1 ≤ j → ¬ MulFits signed y j) : mulDigits signed y = k := by
  obtain ⟨j, rfl⟩ := Nat.exists_eq_add_of_le' h1
  have hfind : (List.range 6).find? (fun j =>
      (List.range 24).all (fun i => i < 4 * (j + 1) || (y.getLsbD i == (signed && y.msb)))) = some j := by
    rw [List.find?_range_eq_some]
    refine ⟨(mulDigits_test signed y j).mpr hfits, List.mem_range.mpr (by omega), fun i hi => ?_⟩
    rw [Bool.not_eq_true', ← Bool.not_eq_true, mulDigits_test]
    exact hleast (i + 1) (by omega) (by omega)
  rw [mulDigits, hfind]
  rfl

theorem mulIssue_eq {signed : Bool} {w : BitVec 40} {t : State} {k : Nat}
    (h : if t.seq.locked then k = 6 else 1 ≤ k ∧ k ≤ 6 ∧ MulFits signed (daGet t.seq (fRs2 w)) k
      ∧ ∀ j < k, 1 ≤ j → ¬ MulFits signed (daGet t.seq (fRs2 w)) j) : mulIssue signed w t = 1 + k := by
  unfold mulIssue mulCycles
  cases hlock : t.seq.locked with
  | true =>
    rw [hlock, if_pos rfl] at h
    rw [if_pos rfl, h]
  | false =>
    rw [hlock] at h
    obtain ⟨h1, h6, hfits, hleast⟩ := h
    rw [if_neg Bool.false_ne_true, mulDigits_of_least h1 h6 hfits hleast]

/-! ### Parts of an accumulator (R185) -/

theorem getLsbD_setFld {n : Nat} (w : BitVec n) (lo len v : Nat) {i : Nat} (hi : i < n) :
    (setFld w lo len v).getLsbD i = if lo ≤ i ∧ i < lo + len then v.testBit (i - lo) else w.getLsbD i := by
  simp only [setFld, BitVec.getLsbD_or, BitVec.getLsbD_and, BitVec.getLsbD_not, BitVec.getLsbD_ofNat, hi, decide_true,
    Bool.true_and, Nat.testBit_mul_two_pow, Nat.testBit_two_pow_sub_one, Nat.testBit_mod_two_pow]
  by_cases hlo : lo ≤ i
  · by_cases hlen : i < lo + len
    · have hoff : i - lo < len := by omega
      simp [hlo, hlen, hoff]
    · have hoff : ¬ i - lo < len := by omega
      simp [hlen, hoff]
  · simp [hlo]

/-- A part of an accumulator written from a word, bit by bit. -/
theorem getLsbD_setFld_part (a : BitVec 72) (x : Word) (j : Nat) {i : Nat} (hi : i < 72) :
    (setFld a (24 * j) 24 x.toNat).getLsbD i = if i / 24 = j then x.getLsbD (i % 24) else a.getLsbD i := by
  rw [getLsbD_setFld a _ _ _ hi]
  by_cases hpart : i / 24 = j
  · rw [if_pos (by omega), if_pos hpart, BitVec.testBit_toNat, show i - 24 * j = i % 24 by omega]
  · rw [if_neg (by omega), if_neg hpart]

/-! ### Quotients and remainders (R316, R318) -/

theorem divU_zero (x : Word) : divU x 0 = (0xFFFFFF#24, x) := rfl

theorem divS_zero (x : Word) : divS x 0 = (0xFFFFFF#24, x) := rfl

theorem divU_of_ne {x y : Word} (h : y ≠ 0) : divU x y = (x / y, x % y) := by
  rw [divU, if_neg h, ← BitVec.toNat_udiv, ← BitVec.toNat_umod, BitVec.ofNat_toNat, BitVec.ofNat_toNat,
    BitVec.setWidth_eq, BitVec.setWidth_eq]

theorem divS_of_ne {x y : Word} (h : y ≠ 0) : divS x y = (x.sdiv y, x.srem y) := by
  have hquot : BitVec.ofInt 24 (x.toInt.tdiv y.toInt) = x.sdiv y :=
    BitVec.eq_of_toInt_eq (by rw [BitVec.toInt_ofInt, BitVec.toInt_sdiv])
  rw [divS, if_neg h, hquot, ← BitVec.toInt_srem, BitVec.ofInt_toInt]

theorem divS_overflow : divS 0x800000#24 0xFFFFFF#24 = (0x800000#24, 0) := by decide

/-- R316: a non-zero signed remainder has the sign of the dividend. -/
theorem srem_neg_iff {x y : Word} (h : x.srem y ≠ 0) : (x.srem y).toInt < 0 ↔ x.toInt < 0 := by
  have hdvd : ¬ y.toInt ∣ x.toInt := fun hd =>
    h (BitVec.eq_of_toInt_eq (by rw [BitVec.toInt_srem, Int.tmod_eq_zero_of_dvd hd]; rfl))
  rw [BitVec.toInt_srem, ← Int.sign_eq_neg_one_iff_neg, Int.sign_tmod, if_neg hdvd, Int.sign_eq_neg_one_iff_neg]

theorem divU_spec {x y : Word} (h : y ≠ 0) : (divU x y).1.toNat = x.toNat / y.toNat
    ∧ (divU x y).2.toNat = x.toNat - (divU x y).1.toNat * y.toNat := by
  rw [divU_of_ne h]
  refine ⟨BitVec.toNat_udiv, ?_⟩
  rw [BitVec.toNat_udiv, BitVec.toNat_umod, Nat.mod_eq_sub_div_mul]

theorem divS_spec {x y : Word} (h : y ≠ 0) (hover : ¬ (x = 0x800000#24 ∧ y = 0xFFFFFF#24)) :
    (divS x y).1.toInt = x.toInt.tdiv y.toInt ∧ (divS x y).2.toInt = x.toInt - (divS x y).1.toInt * y.toInt
      ∧ ((divS x y).2 ≠ 0 → ((divS x y).2.toInt < 0 ↔ x.toInt < 0)) := by
  have hquot : (x.sdiv y).toInt = x.toInt.tdiv y.toInt :=
    BitVec.toInt_sdiv_of_ne_or_ne x y (Decidable.not_and_iff_not_or_not.mp hover)
  rw [divS_of_ne h]
  refine ⟨hquot, ?_, srem_neg_iff⟩
  rw [hquot, BitVec.toInt_srem, Int.tmod_def, Int.mul_comm]

/-- R316, R318: the quotient and remainder of a divide, its edges first. -/
theorem divide_results (signed : Bool) (x y : Word) :
    let p := if signed then divS x y else divU x y
    if y = 0 then p.1 = 0xFFFFFF#24 ∧ p.2 = x
    else if (signed && x == 0x800000#24 && y == 0xFFFFFF#24) = true then p.1 = 0x800000#24 ∧ p.2 = 0
    else if signed then p.1.toInt = x.toInt.tdiv y.toInt ∧ p.2.toInt = x.toInt - p.1.toInt * y.toInt
      ∧ (p.2 ≠ 0 → (p.2.toInt < 0 ↔ x.toInt < 0))
    else p.1.toNat = x.toNat / y.toNat ∧ p.2.toNat = x.toNat - p.1.toNat * y.toNat := by
  intro p
  by_cases hzero : y = 0
  · rw [if_pos hzero]
    subst hzero
    cases signed with
    | false => exact Prod.mk.inj (divU_zero x)
    | true => exact Prod.mk.inj (divS_zero x)
  · rw [if_neg hzero]
    cases signed with
    | false => exact divU_spec hzero
    | true =>
      by_cases hover : x = 0x800000#24 ∧ y = 0xFFFFFF#24
      · obtain ⟨rfl, rfl⟩ := hover
        exact Prod.mk.inj divS_overflow
      · rw [if_neg (by simpa only [Bool.true_and, Bool.and_eq_true, beq_iff_eq] using hover)]
        exact divS_spec hzero hover

end Sys2Proof.Machine
end

section
/-! SUPPORT. The multiply, accumulator and divide rows: what each one's execution leaves. -/

namespace Sys2Proof.Machine

theorem exec_mulAc (w : BitVec 40) (s : State) (signed : Bool) :
    exec (if signed then .muls w else .mulu w) s = .next (s.mulAc w signed false) := by cases signed <;> rfl

theorem exec_macAc (w : BitVec 40) (s : State) (signed : Bool) :
    exec (if signed then .macs w else .macu w) s = .next (s.mulAc w signed true) := by cases signed <;> rfl

theorem exec_divide (w : BitVec 40) (s : State) (signed : Bool) :
    exec (if signed then .divs w else .divu w) s = .next (s.divide w signed) := by cases signed <;> rfl

section
variable {s t : State} {w : BitVec 40} {signed : Bool}

/-- R182, R314: the low word of the product reaches its register, with N and Z where that is a D register. -/
theorem State.Issues.exec_mull (h : s.Issues [fRs1 w, fRs2 w] t) (hl : legalRRR isDA isDA isDA unused w = true) :
    let p := daGet t.seq (fRs1 w) * daGet t.seq (fRs2 w)
    ∃ t', exec (.mull w) s = .next t' ∧ t.WritesReg t' (fRd w) p (mulIssue false w t)
      (if isD (fRd w) then crNZCV t.seq.cr p (crC t.seq.cr) (crV t.seq.cr) else t.seq.cr) :=
  ⟨_, rfl, h.simple_writesReg hl (t.seq.computed_result _ _) (t.seq.wrote_result _ (isDA_iff.mp (legalRRR_dest hl)))
    (t.seq.result_cr _ _)⟩

/-- R315: the product reaches the accumulator, added to what it held where `acc`. -/
theorem State.Issues.mulAc_writesAc {acc : Bool} (h : s.Issues ([fRs1 w, fRs2 w] ++ if acc then [fRd w] else []) t)
    (hl : legalRRR isAC isDA isDA unused w = true) :
    let x := daGet t.seq (fRs1 w)
    let y := daGet t.seq (fRs2 w)
    let p := if signed then mulS x y else mulU x y
    t.WritesAc (s.mulAc w signed acc) (fRd w - 48) (if acc then acGet t.seq (fRd w - 48) + p else p) (mulIssue signed w t) :=
  h.simple_writesAc hl (t.seq.computed_acSet _ _) (wrote_acSet t.seq _ _ (isAC_index (legalRRR_dest hl))) rfl

/-- R233: the accumulator becomes dirty. -/
theorem State.Issues.mulAc_acDirty {acc : Bool} (h : s.Issues ([fRs1 w, fRs2 w] ++ if acc then [fRd w] else []) t)
    (hl : legalRRR isAC isDA isDA unused w = true) : (s.mulAc w signed acc).seq.acDirty.getLsbD (fRd w - 48) = true :=
  (congrArg (·.getLsbD (fRd w - 48)) (h.simple_acDirty hl)).trans (acDirty_acSet t.seq _ (isAC_index (legalRRR_dest hl)))

theorem State.Issues.exec_acrd (h : s.Issues [fRs1 w] t) (hl : legalRRI isDA isAC w = true) (hj : fld w 0 24 ≤ 2) :
    ∃ t', exec (.acrd w) s = .next t' ∧ t.WritesReg t' (fRd w)
      ((acGet t.seq (fRs1 w - 48)).extractLsb' (24 * fld w 0 24) 24) 1 t.seq.cr :=
  ⟨_, rfl, h.simple_writesReg (by simp [hl, hj]) (t.seq.computed_daSet _ _)
    (wrote_daSet t.seq _ _ (isDA_iff.mp (legalRRI_dest hl))) (daSet_cr _ _ _)⟩

theorem State.Issues.exec_acwr (h : s.Issues [fRs1 w, fRd w] t) (hl : legalRRI isAC isDA w = true) (hj : fld w 0 24 ≤ 2) :
    ∃ t', exec (.acwr w) s = .next t' ∧ t.WritesAc t' (fRd w - 48)
      (setFld (acGet t.seq (fRd w - 48)) (24 * fld w 0 24) 24 (daGet t.seq (fRs1 w)).toNat) 1 :=
  ⟨_, rfl, h.simple_writesAc (by simp [hl, hj]) (t.seq.computed_acSet _ _)
    (wrote_acSet t.seq _ _ (isAC_index (legalRRI_dest hl))) rfl⟩

theorem State.Issues.exec_acclr (h : s.Issues [] t) (hl : legalRRR isAC unused unused unused w = true) :
    ∃ t', exec (.acclr w) s = .next t' ∧ t.WritesAc t' (fRd w - 48) 0 1 :=
  ⟨_, rfl, h.simple_writesAc hl (t.seq.computed_acClean _) (t.seq.wroteAc_acClean (isAC_index (legalRRR_dest hl))) rfl⟩

/-- R182, R316, R317: quotient and remainder, of the operands before either is written, reach the pair of registers. -/
theorem State.Issues.divide_writesPair (h : s.Issues [fRs1 w, fRs2 w] t) (hl : legalRRR isEvenD isDA isDA unused w = true) :
    let x := daGet t.seq (fRs1 w)
    let y := daGet t.seq (fRs2 w)
    let p := if signed then divS x y else divU x y
    let t' := s.divide w signed
    t.SeqOnly t' ∧ t.seq.RegsOnly t'.seq ∧ t.seq.Retired t'.seq t.cycle 10
      ∧ (∀ k < 48, daGet t'.seq k = if k = fRd w + 1 then p.2 else if k = fRd w then p.1 else daGet t.seq k)
      ∧ (∀ n, acGet t'.seq n = acGet t.seq n)
      ∧ t'.seq.cr = divCr t.seq.cr (signed && x == 0x800000#24 && y == 0xFFFFFF#24) (decide (y = 0)) := by
  intro x y p t'
  obtain ⟨hd, heven⟩ := isEvenD_iff.mp (legalRRR_dest hl)
  obtain ⟨hseq, hregs, hret⟩ : t.SeqOnly t' ∧ t.seq.RegsOnly t'.seq ∧ t.seq.Retired t'.seq t.cycle 10 :=
    h.simple_computes hl rfl
  exact ⟨hseq, hregs, hret, fun k hk => (h.simple_daGet hl k).trans (daGet_dSet_pair _ _ _ (by omega) hk),
    fun n => h.simple_acGet hl n, h.simple_cr hl⟩

end

end Sys2Proof.Machine
end

section
/-! SUPPORT. The statements on multiplies, accumulator parts and divides. -/

open Sys2Proof Sys2Proof.Machine

/-- Settles O12. Each row is an instruction that computes on the registers and writes one of them; a multiply's cycles are the
least digit count that fits its multiplier, and the parts of an accumulator are compared bit by bit. -/
theorem multipliesWriteProducts : Obligations.MultipliesWriteProducts := by
  unfold Obligations.MultipliesWriteProducts
  refine ⟨?_, fun s t w => ⟨fun h hl hj => ?_, fun h hl hj => ?_, fun h hl => h.exec_acclr hl⟩⟩
  · intro s t w signed x y fits p k hk
    have hissue : mulIssue signed w t = 1 + k := mulIssue_eq hk
    rw [← hissue]
    refine ⟨fun h hl hu => ?_, fun h hl => ?_, fun h hl => ?_⟩
    · subst hu
      rw [BitVec.ofNat_mul, BitVec.ofNat_toNat, BitVec.ofNat_toNat, BitVec.setWidth_eq, BitVec.setWidth_eq]
      exact h.exec_mull hl
    · exact ⟨_, exec_mulAc w s signed, h.mulAc_writesAc hl (acc := false)⟩
    · obtain ⟨hseq, hregs, hwrote, hret, hcr⟩ := h.mulAc_writesAc hl (acc := true) (signed := signed)
      exact ⟨_, exec_macAc w s signed, hseq, hregs, hwrote, hret, hcr, h.mulAc_acDirty hl (acc := true)⟩
  · obtain ⟨t', hexec, hseq, hregs, hwrote, hret, hcr⟩ := h.exec_acrd hl hj
    refine ⟨t', _, hexec, hseq, hregs, hwrote, fun i hi => ?_, hret, hcr⟩
    rw [BitVec.getLsbD_extractLsb', decide_eq_true hi, Bool.true_and]
  · obtain ⟨t', hexec, hseq, hregs, hwrote, hret, hcr⟩ := h.exec_acwr hl hj
    exact ⟨t', _, hexec, hseq, hregs, hwrote, fun i hi => getLsbD_setFld_part _ _ _ hi, hret, hcr⟩

/-- Settles O13. The even destination names two different D registers, which take the quotient and the remainder of the operands
read at issue; the values are those of `divide_results`. -/
theorem dividesWriteQuotientAndRemainder : Obligations.DividesWriteQuotientAndRemainder := by
  unfold Obligations.DividesWriteQuotientAndRemainder
  intro s t w signed h hl x y edge
  obtain ⟨hd, -⟩ := isEvenD_iff.mp (legalRRR_dest hl)
  obtain ⟨hseq, hregs, hret, hda, hac, hcr⟩ := h.divide_writesPair hl (signed := signed)
  refine ⟨_, _, _, exec_divide w s signed, hseq, hregs, ?_, ?_, fun k hk hq hr => ?_, hac, divide_results signed x y, hret, hcr⟩
  · rw [hda _ (by omega), if_neg (by omega), if_pos rfl]
  · rw [hda _ (by omega), if_pos rfl]
  · rw [hda k hk, if_neg hr, if_neg hq]
end

section
/-! SUPPORT. Hardware queues of Tweed regions: when a region's user logic runs, and what a pop and a push leave of a queue, of
its pop port and of its drop counter. -/

namespace Sys2Proof.Machine

/-! ### Running regions (R266, R684) -/

theorem State.runs_iff {s : State} {r : Nat} : s.runs r = true ↔ s.rstate r = 3 ∧ s.clocked r = true := by
  rw [State.runs, Bool.and_eq_true, beq_iff_eq]

theorem State.clocked_of_locked {s : State} (h : (s.reg bCLK 0).extractLsb' 12 8 = 0xFF#8) (r : Nat) : s.clocked r = true := by
  simp [State.clocked, h]

theorem State.runs_of_locked {s : State} {r : Nat} (hst : s.rstate r = 3) (h : (s.reg bCLK 0).extractLsb' 12 8 = 0xFF#8) :
    s.runs r = true :=
  State.runs_iff.mpr ⟨hst, State.clocked_of_locked h r⟩

theorem State.not_runs_of_not_active {s : State} {r : Nat} (hst : s.rstate r ≠ 3) : s.runs r = false :=
  Bool.eq_false_iff.mpr fun h => hst (State.runs_iff.mp h).1

theorem any_region_runs_iff {s : State} : (List.range 16).any s.runs = true ↔ ∃ k < 16, s.runs k = true := by
  simp only [List.any_eq_true, List.mem_range]

theorem exec_tweedUserInterrupt_of_running {s : State} (h : ∃ k < 16, s.runs k = true) :
    exec .tweedUserInterrupt s = .next (s.raiseLine 8) :=
  congrArg Host.Outcome.next (if_pos (any_region_runs_iff.mpr h))

theorem exec_tweedUserInterrupt_of_stopped {s : State} (h : ∀ k < 16, s.runs k = false) :
    exec .tweedUserInterrupt s = .next s := by
  refine congrArg Host.Outcome.next (if_neg fun hany => ?_)
  obtain ⟨k, hk, hruns⟩ := any_region_runs_iff.mp hany
  exact Bool.false_ne_true ((h k hk).symm.trans hruns)

/-! ### Pops and pushes (R412 to R415) -/

/-- What the pop port shows after a pop of a queue holding `l`: the oldest entry and valid, or 0 and not valid. -/
def popOutput (l : List (BitVec 72)) : BitVec 72 × Bool :=
  match l with
  | x :: _ => (x, true)
  | [] => (0, false)

/-- `s` with the entries of queue `k` replaced. -/
def State.giveQueue (s : State) (k : Nat) (l : List (BitVec 72)) : State :=
  s.mapTw (fun w => { w with queues := sput [] w.queues k l })

/-- `s` with the pop port of queue `k` showing what a pop of `l` gives. -/
def State.showPop (s : State) (k : Nat) (l : List (BitVec 72)) : State :=
  s.mapTw (fun w => { w with popped := sput (0, false) w.popped k (popOutput l) })

/-- `s` after a cycle, with a pop or without, that leaves queue `k` with the entries `l'`. -/
def State.queueCycle (s : State) (k : Nat) (pop : Bool) (l' : List (BitVec 72)) : State :=
  if pop then (s.giveQueue k l').showPop k (sget [] s.tw.queues k) else s.giveQueue k l'

/-- The entries of a queue after a push: a pop, or policy 2 where the queue is full, takes the oldest; the pushed one is dropped
where the queue was full under another policy. -/
def queueAfterPush (full old pop : Bool) (l : List (BitVec 72)) (e : BitVec 72) : List (BitVec 72) :=
  let kept := if pop || (full && old) then l.drop 1 else l
  if full && !old then kept else kept ++ [e]

section
variable {s : State} {r q k : Nat}

theorem State.queuePop_of_stopped (h : s.runs r = false ∨ (s.queueCfg r q).getLsbD 23 = false) : s.queuePop r q = s :=
  if_pos (by rcases h with h | h <;> simp only [h, Bool.not_false, Bool.true_or, Bool.or_true])

theorem State.queuePush_of_stopped (h : s.runs r = false ∨ (s.queueCfg r q).getLsbD 23 = false) (d : BitVec 72) (pop : Bool) :
    s.queuePush r q d pop = s :=
  if_pos (by rcases h with h | h <;> simp only [h, Bool.not_false, Bool.true_or, Bool.or_true])

theorem State.queuePop_of_enabled (hr : s.runs r = true) (hen : (s.queueCfg r q).getLsbD 23 = true) (hk : 1024 * r + q = k) :
    s.queuePop r q = s.queueCycle k true ((sget [] s.tw.queues k).drop 1) := by
  subst hk
  simp only [State.queuePop, hr, hen]
  rfl

/-- R414: of an enabled queue, what a push leaves, and when it counts a dropped entry. -/
theorem State.queuePush_of_enabled (hr : s.runs r = true) (hen : (s.queueCfg r q).getLsbD 23 = true) (hk : 1024 * r + q = k)
    {full old : Bool} (hfull : decide (queueDepth (s.queueCfg r q) ≤ (sget [] s.tw.queues k).length) = full)
    (hold : (fld (s.queueCfg r q) 21 2 == 2) = old) (d : BitVec 72) (pop : Bool) :
    s.queuePush r q d pop =
      let t := s.queueCycle k pop (queueAfterPush full old pop (sget [] s.tw.queues k) (s.entryBits r q d))
      if full && !(old && pop) then t.count (bTWQ + r) (4 * q + 3) 1 else t := by
  subst hk
  simp only [State.queuePush, hr, hen, hfull, hold]
  cases pop <;> rfl

variable (hr : s.runs r = true) (hen : (s.queueCfg r q).getLsbD 23 = true) (hk : 1024 * r + q = k)
include hr hen hk

theorem State.queuePush_of_room (hroom : ¬ queueDepth (s.queueCfg r q) ≤ (sget [] s.tw.queues k).length) (d : BitVec 72)
    (pop : Bool) : s.queuePush r q d pop = s.queueCycle k pop
      ((if pop then (sget [] s.tw.queues k).drop 1 else sget [] s.tw.queues k) ++ [s.entryBits r q d]) := by
  rw [State.queuePush_of_enabled hr hen hk (decide_eq_false hroom) rfl]
  simp [queueAfterPush]

theorem State.queuePush_of_full_dropNew (hfull : queueDepth (s.queueCfg r q) ≤ (sget [] s.tw.queues k).length)
    (hold : fld (s.queueCfg r q) 21 2 ≠ 2) (d : BitVec 72) (pop : Bool) : s.queuePush r q d pop = (s.queueCycle k pop
      (if pop then (sget [] s.tw.queues k).drop 1 else sget [] s.tw.queues k)).count (bTWQ + r) (4 * q + 3) 1 := by
  rw [State.queuePush_of_enabled hr hen hk (decide_eq_true hfull) (beq_false_of_ne hold)]
  simp [queueAfterPush]

theorem State.queuePush_of_full_dropOld (hfull : queueDepth (s.queueCfg r q) ≤ (sget [] s.tw.queues k).length)
    (hold : fld (s.queueCfg r q) 21 2 = 2) (d : BitVec 72) (pop : Bool) :
    let t := s.queueCycle k pop ((sget [] s.tw.queues k).drop 1 ++ [s.entryBits r q d])
    s.queuePush r q d pop = if pop then t else t.count (bTWQ + r) (4 * q + 3) 1 := by
  rw [State.queuePush_of_enabled hr hen hk (decide_eq_true hfull) (beq_iff_eq.mpr hold)]
  cases pop <;> simp [queueAfterPush]

end

end Sys2Proof.Machine
end

section
/-! SUPPORT. The statement on hardware queues. -/

open Sys2Proof Sys2Proof.Machine

/-- Settles O43. The queue's state at the start of the cycle decides between room, a full queue that drops the pushed entry and
one that drops its oldest; the clauses on the lines and the PLLs' lock bits are what those rows do. -/
theorem queuesPushAndPop : Obligations.QueuesPushAndPop := by
  unfold Obligations.QueuesPushAndPop
  intro s n d r cfg l e full old give head out dropped
  have hk : 1024 * (n.val / 1024) + n.val % 1024 = n.val := Nat.div_add_mod n.val 1024
  refine ⟨⟨State.runs_of_locked, State.not_runs_of_not_active⟩, fun hstop => ?_, fun hr hen => ?_,
    exec_tweedUserInterrupt_of_running, exec_tweedUserInterrupt_of_stopped, fun k => ⟨rfl, rfl, rfl⟩⟩
  · exact ⟨congrArg _ (State.queuePop_of_stopped hstop), fun pop => congrArg _ (State.queuePush_of_stopped hstop d pop)⟩
  refine ⟨congrArg _ (State.queuePop_of_enabled hr hen hk), fun hroom => ?_, fun hfull hold => ?_, fun hfull hold => ?_⟩
  · have hpush := State.queuePush_of_room hr hen hk hroom d
    exact ⟨congrArg _ (hpush false), congrArg _ (hpush true)⟩
  · have hpush := State.queuePush_of_full_dropNew hr hen hk hfull hold d
    exact ⟨congrArg _ (hpush false), congrArg _ (hpush true)⟩
  · have hpush := State.queuePush_of_full_dropOld hr hen hk hfull hold d
    exact ⟨congrArg _ (hpush false), congrArg _ (hpush true)⟩
end
